-- ==== Sys2Proof/Word.lean ====
section
/-! DEFINITION. The words of the machine: one byte, one 16-bit register, one 7-bit bus address
(00_scope.md R8: bus address width 7, flash address width 16, data width 8, LEN width 16). -/

namespace Sys2Proof

/-- A data byte, a command byte, an opcode or a config address (R8). -/
abbrev Byte := BitVec 8

/-- A 16-bit host register: ADDR or LEN, and what HostRead returns (R26, R27, R30). -/
abbrev Word := BitVec 16

/-- A bus address: "a 7-bit value identifying a logical destination" (R60). -/
abbrev BusAddr := BitVec 7

end Sys2Proof
end

