-- ==== Sys2Proof/Config.lean ====
section
/-! DEFINITION. The parameters of 00_scope.md R8 and the free values the spec leaves open.
A parameter is a field of `Config`, so that a claim can quantify over it (93 U10, U11, U14); the values
this hardware takes are `Config.default`. A free value is an opaque constant: nothing can be proved of it. -/

namespace Sys2Proof

/-- The direction of a start condition (R11, R63): W (write) or R (read). -/
inductive Dir where
  | write
  | read
  deriving DecidableEq, Repr

/-- The parameters of R8. They are fixed for the machine: no step writes them. -/
structure Config where
  /-- `ADDR_RESET`, the reset pseudo-address. -/
  addrReset : BusAddr
  /-- `HS1`, "sent after reset ack". -/
  hs1 : Byte
  /-- `HS2`, "sent after step 1". -/
  hs2 : Byte
  /-- `ADDR_CMD`, the command channel. -/
  addrCmd : BusAddr
  /-- `ADDR_DATA`, the data channel. -/
  addrData : BusAddr
  /-- `CMD_ERASE`. -/
  cmdErase : Byte
  /-- `CMD_WRFLASH`. -/
  cmdWrflash : Byte
  /-- `CMD_RDFLASH`. -/
  cmdRdflash : Byte
  /-- `CMD_WRCFG`. -/
  cmdWrcfg : Byte
  /-- `CMD_RDCFG`. -/
  cmdRdcfg : Byte
  /-- `CHIPTYPE_OFFSET`, the config offset RDTYPE reads. -/
  chiptypeOffset : Byte
  /-- `CHIPTYPE_EXPECT`: "not used by any rule of the sequencer"; the host compares with it (R159). -/
  chiptypeExpect : Byte
  /-- `RETRY_BOUND`, the most reset attempts one HANDSHAKE makes (R133). -/
  retryBound : Nat
  /-- `FLASH_SIZE`, used by the block range check only (R191). -/
  flashSize : Nat
  /-- `BLOCK_SIZE`: a convention of the caller, used by no rule (R6). -/
  blockSize : Nat
  /-- `BLOCK_COUNT`: a convention of the caller, used by no rule (R6). -/
  blockCount : Nat
  /-- `CFG_SIZE`, OPEN, 1 to 255 (D14), used by the block range check only. -/
  cfgSize : Nat
  /-- `DIR_PREAMBLE` (D7). -/
  dirPreamble : Dir
  /-- `DIR_HS_RESET` (D8). -/
  dirHsReset : Dir
  /-- `RREQ_READS_BYTE` (D9): false on this hardware. True is the alternative of D9: a read-request makes one
  `T.Read(false)` between its start and its stop (log entry 9). -/
  rreqReadsByte : Bool
  /-- `BLOCK_RANGE_CHECK` (D13): true on this hardware. False is the alternative of D13: a block whose range leaves the
  space is refused (log entry 9). -/
  blockRangeCheck : Bool
  /-- `BLOCK_LATCH` (90 C13): false on this hardware. True is the alternative of C13: a block never forgets a failure. -/
  blockLatch : Bool
  /-- MODEL'S OWN, no parameter of the hardware: whether the host's write of a register while BUSY = 1 has no step (R265,
  U6) or is ignored (R30). True after reset (log entry 23). -/
  refuseBusyWrites : Bool
  /-- MODEL'S OWN, no parameter of the hardware: whether the host's write of a reserved value to CMD has no step (R265) or
  the effect of R103. False after reset, as U7 says: "as specified" (log entry 23). -/
  refuseReservedOpcodes : Bool
  deriving DecidableEq, Repr

/-- The values this hardware takes (R8, R104). -/
def Config.default : Config where
  addrReset := 0x7C
  hs1 := 0x7D
  hs2 := 0x2D
  addrCmd := 0x7E
  addrData := 0x7F
  cmdErase := 0x03
  cmdWrflash := 0x05
  cmdRdflash := 0x06
  cmdWrcfg := 0x08
  cmdRdcfg := 0x09
  chiptypeOffset := 0x00
  chiptypeExpect := 0x0A
  retryBound := 10
  flashSize := 8192
  blockSize := 512
  blockCount := 16
  cfgSize := 255
  dirPreamble := .write
  dirHsReset := .write
  rreqReadsByte := false
  blockRangeCheck := true
  blockLatch := false
  refuseBusyWrites := true
  refuseReservedOpcodes := false

/-- FREE VALUE: the acknowledge bit the transport gives at the n-th counted or ignored call, where the
environment has not said it (R82, U8; log entry 5). -/
opaque Config.freeAck : Nat → Bool

/-- FREE VALUE: the byte the n-th `T.Read` returns, where the environment has not said it (R65, U1, U8; log entry 5). -/
opaque Config.freeByte : Nat → Byte

/-- FREE VALUE: the byte `B.Read(i)` returns for an index the host has placed no byte at (R195, U12; log entry 6). -/
opaque Config.freeBufferByte : Nat → Byte

/-- FREE VALUE: whether a zero-length block reports OK (`ZERO_LEN_RES`, R192, U2; log entry 7). -/
opaque Config.freeZeroLengthOk : Nat → Bool

/-- FREE VALUE: what ADDR holds after reset (R37, R38, U3: "Do not pick zero"; log entry 1). -/
opaque Config.unwrittenAddr : Nat → Word

/-- FREE VALUE: what LEN holds after reset (R37, R38, U3; log entry 1). -/
opaque Config.unwrittenLen : Nat → Word

/-- FREE VALUE: what DATA holds after reset (R37, R38, U3; log entry 1). -/
opaque Config.unwrittenData : Nat → Byte

end Sys2Proof
end

