-- ==== Sys2Proof/Syntax.lean ====
section
/-! DEFINITION. The instructions: the twelve operations of 30_encoding.md R102, one constructor per row
of the opcode table. Operands are registers, "not part of the opcode" (R100), so no constructor has a field. -/

namespace Sys2Proof

/-- The twelve operations (R102). -/
inductive Instr where
  /-- HANDSHAKE (R130). -/
  | handshake
  /-- RESET, "Reset MCU" (R160). -/
  | reset
  /-- ERASE (R154). -/
  | erase
  /-- RDTYPE, "Read Chip Type" (R159). -/
  | rdtype
  /-- WRFLASH, "Write Flash Byte" (R158). -/
  | wrflash
  /-- RDFLASH, "Read Flash Byte" (R156). -/
  | rdflash
  /-- WRCFG, "Write Config Byte" (R157). -/
  | wrcfg
  /-- RDCFG, "Read Config Byte" (R155). -/
  | rdcfg
  /-- WRFBLK, write block on the flash space (R197). -/
  | wrfblk
  /-- RDFBLK, read block on the flash space (R196). -/
  | rdfblk
  /-- WRCBLK, write block on the config space (R199). -/
  | wrcblk
  /-- RDCBLK, read block on the config space (R198). -/
  | rdcblk
  deriving DecidableEq, Repr

end Sys2Proof
end

