-- ==== Sys2Proof/WellFormed.lean ====
section
/-! DEFINITION. What is well formed: an opcode byte read as the fields of format OP8 (30_encoding.md R100),
and a configuration (00_scope.md R8). -/

namespace Sys2Proof

/-- The fields of format OP8 (R100): bits 7:5 `zero`, bit 4 `BLK`, bits 3:0 `FN`. -/
structure Op8 where
  zero : BitVec 3
  blk : BitVec 1
  fn : BitVec 4
  deriving DecidableEq, Repr

/-- R100: bits 7:5 "must be 0b000". -/
def Op8.zeroOk (f : Op8) : Bool := f.zero == 0

/-- The function codes R102 gives a single form. -/
def Op8.singleFns : List (BitVec 4) := [0x1, 0x2, 0x3, 0x4, 0x5, 0x6, 0x8, 0x9]

/-- The function codes R102 gives a block form. -/
def Op8.blockFns : List (BitVec 4) := [0x5, 0x6, 0x8, 0x9]

/-- `FN` is one of the function codes R102 gives the form that `BLK` selects. -/
def Op8.fnOk (f : Op8) : Bool :=
  if f.blk = 0 then Op8.singleFns.contains f.fn else Op8.blockFns.contains f.fn

/-- R100: "an opcode is defined only if the whole byte equals a row of rule R102". -/
def Op8.wf (f : Op8) : Bool := f.zeroOk && f.fnOk

/-- R8: `CFG_SIZE` is 1 to 255. -/
def Config.cfgSizeOk (c : Config) : Bool := decide (1 ≤ c.cfgSize ∧ c.cfgSize ≤ 255)

/-- R32: ATT is 4 bits wide and counts to `RETRY_BOUND`. -/
def Config.retryOk (c : Config) : Bool := decide (1 ≤ c.retryBound ∧ c.retryBound ≤ 15)

/-- R60: flash addresses are 16 bits wide. -/
def Config.flashSizeOk (c : Config) : Bool := decide (c.flashSize ≤ 0x10000)

/-- R133: the bytes after an acknowledged reset attempt are written, "which the transport contract only
allows in a write transaction". -/
def Config.dirOk (c : Config) : Bool := c.dirHsReset == .write

/-- A configuration in which the rules' own side conditions hold. -/
def Config.wf (c : Config) : Bool := c.cfgSizeOk && c.retryOk && c.flashSizeOk && c.dirOk

end Sys2Proof
end

