-- ==== Sys2Proof/Decode.lean ====
section
/-! DEFINITION. The decoder of the opcode byte (30_encoding.md R100, R102, R103), total and rejecting by
name, and after it the encoder. -/

namespace Sys2Proof

/-- Why a byte is no opcode (R103). -/
inductive Reject where
  /-- Bits 7:5 are not 0b000 (R100). -/
  | zeroFieldNotZero
  /-- No operation has this function code (R102). -/
  | noSuchFunction
  /-- The function has a single form and no block form ("the block forms of HANDSHAKE, RESET, ERASE, RDTYPE
  (0x11 to 0x14) do not exist", R103). -/
  | noBlockForm
  deriving DecidableEq, Repr

/-- What the decoder answers. -/
inductive Decoded where
  | op (i : Instr)
  | reject (r : Reject)
  deriving DecidableEq, Repr

/-- The fields of an opcode byte (R100). -/
def op8Fields (b : Byte) : Op8 where
  zero := b.extractLsb' 5 3
  blk := b.extractLsb' 4 1
  fn := b.extractLsb' 0 4

/-- R102, the rows with `BLK` = 0. -/
def singleForm (fn : BitVec 4) : Option Instr :=
  match fn.toNat with
  | 0x1 => some .handshake
  | 0x2 => some .reset
  | 0x3 => some .erase
  | 0x4 => some .rdtype
  | 0x5 => some .wrflash
  | 0x6 => some .rdflash
  | 0x8 => some .wrcfg
  | 0x9 => some .rdcfg
  | _ => none

/-- R102, the rows with `BLK` = 1. -/
def blockForm (fn : BitVec 4) : Option Instr :=
  match fn.toNat with
  | 0x5 => some .wrfblk
  | 0x6 => some .rdfblk
  | 0x8 => some .wrcblk
  | 0x9 => some .rdcblk
  | _ => none

/-- Why a byte with these fields is no opcode. -/
def rejectOf (f : Op8) : Reject :=
  if f.zero ≠ 0 then .zeroFieldNotZero
  else if (singleForm f.fn).isNone then .noSuchFunction
  else .noBlockForm

/-- Decoding of fields: all eight bits count (R100). -/
def decodeFields (f : Op8) : Decoded :=
  if f.zero ≠ 0 then .reject (rejectOf f)
  else
    match if f.blk = 0 then singleForm f.fn else blockForm f.fn with
    | some i => .op i
    | none => .reject (rejectOf f)

/-- The decoder: the operation a byte written to CMD selects, or why it selects none (R102, R103). -/
def decode (b : Byte) : Decoded := decodeFields (op8Fields b)

/-- The operation of a decoded byte, if it is one. -/
def Decoded.instr? : Decoded → Option Instr
  | .op i => some i
  | .reject _ => none

/-- The `BLK` and `FN` columns of R102. -/
def encodeFields : Instr → Op8
  | .handshake => { zero := 0, blk := 0, fn := 0x1 }
  | .reset => { zero := 0, blk := 0, fn := 0x2 }
  | .erase => { zero := 0, blk := 0, fn := 0x3 }
  | .rdtype => { zero := 0, blk := 0, fn := 0x4 }
  | .wrflash => { zero := 0, blk := 0, fn := 0x5 }
  | .rdflash => { zero := 0, blk := 0, fn := 0x6 }
  | .wrcfg => { zero := 0, blk := 0, fn := 0x8 }
  | .rdcfg => { zero := 0, blk := 0, fn := 0x9 }
  | .wrfblk => { zero := 0, blk := 1, fn := 0x5 }
  | .rdfblk => { zero := 0, blk := 1, fn := 0x6 }
  | .wrcblk => { zero := 0, blk := 1, fn := 0x8 }
  | .rdcblk => { zero := 0, blk := 1, fn := 0x9 }

/-- The byte of the fields: `zero ++ BLK ++ FN` (R100). -/
def Op8.byte (f : Op8) : Byte := f.zero ++ f.blk ++ f.fn

/-- The encoder: the opcode of an operation. -/
def encode (i : Instr) : Byte := (encodeFields i).byte

/-- An operation is well formed when its opcode's fields are. Every operation is. -/
def Instr.wellFormed (i : Instr) : Bool := (encodeFields i).wf

/-- The operation the decoder reads from an opcode-table word: every opcode is one byte, so a word with a bit
above bit 7 is none. -/
def decodeTableWord (nbits w : Nat) : Option Instr :=
  let v := w % 2 ^ nbits
  if v < 256 then (decode (BitVec.ofNat 8 v)).instr? else none

end Sys2Proof
end

