-- ==== Sys2Proof/Machine/State.lean ====
section
/-! DEFINITION. The state: the complete state of the sequencer (10_state.md R20), and beside it, as plain
data, the environment of its three ports: the block buffer, the replies to come, the host's moves to come,
and what has been seen at the ports. -/

namespace Sys2Proof.Machine

/-- `RES`, the result of the last operation (R24). -/
inductive Result where
  /-- 0b00: no operation has completed since reset, or one is running. -/
  | none
  /-- 0b01: success. -/
  | ok
  /-- 0b10: failure. -/
  | fail
  /-- 0b11: completed with no success signal; reported only by RESET. -/
  | unverified
  deriving DecidableEq, Repr

/-- `HS`, the Handshake State (R25). -/
inductive HsState where
  /-- 0b00. -/
  | notStarted
  /-- 0b01. -/
  | retrying
  /-- 0b10. -/
  | acknowledged
  /-- 0b11. -/
  | failed
  deriving DecidableEq, Repr

/-- The values of `SEQ`, the step pointer (R31). It has no numeric encoding. `hr` and `xr` are the model's own: the read
of a read-request where `RREQ_READS_BYTE` is true (D9), after `H7` and after `X0`; this hardware never reaches them
(DESIGN CHOICE, log entry 9). -/
inductive Label where
  | idle
  | h0 | h1 | h2 | h3 | h4 | h5 | h6 | h7 | h8 | hr
  | c0 | c1 | c2 | c3 | c4
  | d0 | d1 | d2
  | x0 | x1 | xr
  | bchk | bld | bst | byl | bnx
  deriving DecidableEq, Repr

/-- An event at the sequencer's interfaces (R12). -/
inductive Event where
  /-- `T.Start(a, d)` answered ack (true) or nack (false). -/
  | start (a : BusAddr) (d : Dir) (ack : Bool)
  /-- `T.Write(v)` answered ack or nack. -/
  | write (v : Byte) (ack : Bool)
  /-- `T.Read(more)` returning v. -/
  | read (more : Bool) (v : Byte)
  /-- `T.Stop()`. -/
  | stop
  /-- `H.Yield()`. -/
  | yield
  /-- `B.Read(i)` returning v. -/
  | bufRead (i : Word) (v : Byte)
  /-- `B.Write(i, v)`. -/
  | bufWrite (i : Word) (v : Byte)
  /-- No call of the sequencer: the model's mark that the reset input was asserted here, and whether an operation was
  running then (R251, R264; log entry 15). -/
  | resetInput (running : Bool)
  deriving DecidableEq, Repr

/-- A move of the host, or of the environment (R265; log entries 4, 14). -/
inductive Move where
  /-- Let the sequencer make one step. -/
  | letStep
  /-- Let the sequencer run until BUSY = 0: the polling loop of R110. -/
  | await
  /-- `HostRead(n)` (R30). -/
  | readReg (n : Nat)
  /-- `HostWrite(n, v)` (R30). -/
  | writeReg (n : Nat) (v : Word)
  /-- The host reads byte i of its buffer. -/
  | readBuf (i : Nat)
  /-- The host writes byte i of its buffer. -/
  | writeBuf (i : Nat) (v : Byte)
  /-- From here on the calls the sequencer makes do not return (R233). -/
  | stall
  /-- From here on they return again. -/
  | resume
  /-- The host asserts the reset input (R37, R250, R251). -/
  | assertReset
  deriving DecidableEq, Repr

/-- What the host has read. -/
inductive Seen where
  /-- `HostRead(n)` returned v. -/
  | reg (n : Nat) (v : Word)
  /-- Byte i of the buffer; none where the host has placed none. -/
  | buf (i : Nat) (v : Option Byte)
  deriving DecidableEq, Repr

/-- The block buffer as (index, byte) pairs, indices strictly rising; an unlisted index has no byte (R69). -/
abbrev Memory := List Host.Cell

/-- The whole machine: R20's state, then its environment. -/
@[ext]
structure State where
  /-- The parameters of R8; no step writes them (log entry 8). -/
  cfg : Config
  /-- `OPC` (R21). -/
  opc : Byte
  /-- `ADDR` (R26). -/
  addr : Word
  /-- `LEN` (R27). -/
  len : Word
  /-- `DATA` (R28). -/
  data : Byte
  /-- `BUSY` (R23). -/
  busy : Bool
  /-- `RES` (R24). -/
  res : Result
  /-- `HS` (R25). -/
  hs : HsState
  /-- `SEQ` (R31). -/
  seq : Label
  /-- `ACC` (R35). -/
  acc : Bool
  /-- `ATT` (R32). -/
  att : BitVec 4
  /-- `PASS` (R34): true in the second pass. -/
  pass : Bool
  /-- `IDX` (R33). -/
  idx : Word
  /-- The block buffer, the host's (R69). -/
  buf : Memory
  /-- The environment's calls do not return at present (R233). -/
  stalled : Bool
  /-- The moves to come, oldest first (log entry 4). -/
  script : List Move
  /-- The acknowledge bits the transport answers next (R82; log entry 5). -/
  acks : List Bool
  /-- The bytes the transport returns next (R82; log entry 5). -/
  reads : List Byte
  /-- MODEL'S OWN: acknowledge bits taken so far. -/
  ackDraws : Nat
  /-- MODEL'S OWN: bytes taken so far. -/
  byteDraws : Nat
  /-- MODEL'S OWN: index of the next of the other free values. -/
  draws : Nat
  /-- What has happened at the interfaces, in order (R12). -/
  trace : List Event
  /-- What the host has read, in order. -/
  seen : List Seen
  deriving DecidableEq, Repr

/-- The faults. None of them is a fault of the hardware, which has none (R220). -/
inductive Fault where
  /-- Raised by an operation's meaning when the sequencer is busy at a label that is no step of the operation
  (R31). Safe: no run reaches it. -/
  | labelOutsideOperation
  /-- Raised by the sequencer's turn when it is busy with an OPC that is no opcode (R21). Safe: no run
  reaches it. -/
  | opcodeNotDefined
  deriving DecidableEq, Repr

/-- The refusals. -/
inductive Refusal where
  /-- Raised by exec for an operation that has no meaning yet. Safe. -/
  | notModelled (mnemonic : String)
  /-- Raised by the host's move that touches the block buffer while BUSY = 1, which R69, R257 and R265 forbid
  the host and give no effect (93 U12, U15). Safe. -/
  | bufferTouchedWhileBusy
  /-- Raised by a block operation whose range leaves the space where `BLOCK_RANGE_CHECK` is false: "a model may set the
  parameter false and then must refuse out-of-range blocks instead" (D13). Not on this hardware. Safe. -/
  | blockOutOfRange
  /-- Raised by the host's write of a register while BUSY = 1, at a yield too: "a move a model gives the host no step for"
  (R265, U6, U15), where the model refuses such writes, as after reset. Safe. -/
  | registerWrittenWhileBusy
  /-- Raised by the host's write of a reserved value to CMD where the model refuses it (R265, U7), not after reset.
  Safe. -/
  | reservedOpcodeWritten
  deriving DecidableEq, Repr

/-- What a step answers. -/
abbrev StepOutcome := Host.Outcome State Fault Refusal

/-- The machine right after reset (R37). ADDR, LEN, DATA are unspecified there: opaque values (log entry 1).
The environment has no reset in the spec: nothing said, nothing seen (log entry 2). -/
def State.reset : State where
  cfg := Config.default
  opc := 0x00
  addr := Config.unwrittenAddr 0
  len := Config.unwrittenLen 0
  data := Config.unwrittenData 0
  busy := false
  res := .none
  hs := .notStarted
  seq := .idle
  acc := true
  att := 0
  pass := false
  idx := 0
  buf := []
  stalled := false
  script := []
  acks := []
  reads := []
  ackDraws := 0
  byteDraws := 0
  draws := 1
  trace := []
  seen := []

end Sys2Proof.Machine
end

