-- ==== Sys2Proof/Machine/Ops.lean ====
section
/-! DEFINITION. The shared operations: the block buffer, the environment's replies, the seven interface
calls of 00_scope.md R11, the issue of an operation (R21), its finish (R23), and the reset input (R37).
The hardware has no exceptions (60_exceptions.md R220), so there is no exception entry and no return. -/

namespace Sys2Proof.Machine

/-! ## The block buffer -/

/-- The byte at an index, none where the host has placed none. -/
def Memory.read : Memory → Nat → Option Byte
  | [], _ => none
  | (b, w) :: m, a => if a = b then some w else Memory.read m a

/-- Store a byte at an index, keeping the indices rising. -/
def Memory.write : Memory → Nat → Byte → Memory
  | [], a, v => [(a, v)]
  | (b, w) :: m, a, v =>
    if a < b then (a, v) :: (b, w) :: m
    else if a = b then (a, v) :: m
    else (b, w) :: Memory.write m a v

/-- Every index of the buffer is at least `lo` and the indices rise strictly. -/
def Memory.wfFrom : Nat → Memory → Bool
  | _, [] => true
  | lo, (b, _) :: m => decide (lo ≤ b) && Memory.wfFrom (b + 1) m

/-- The canonical form: indices strictly rising (an unlisted index has no byte, so no entry is to be left out). -/
def Memory.wf (m : Memory) : Bool := Memory.wfFrom 0 m

/-! ## The replies of the environment -/

/-- The acknowledge bit the k-th call from here that returns one will get: the environment's, if it has said
it, else free (R82). -/
def State.ackAt (s : State) (k : Nat) : Bool :=
  match s.acks[k]? with
  | some a => a
  | none => Config.freeAck (s.ackDraws + k)

/-- The byte the k-th `T.Read` from here will return (R65, R82). -/
def State.byteAt (s : State) (k : Nat) : Byte :=
  match s.reads[k]? with
  | some v => v
  | none => Config.freeByte (s.byteDraws + k)

/-- The byte `B.Read(IDX)` returns now: the host's, if it has placed one, else free (R69, R195). -/
def State.loadedByte (s : State) : Byte :=
  match s.buf.read s.idx.toNat with
  | some v => v
  | none => Config.freeBufferByte s.draws

/-! ## The interface calls (R11) -/

/-- `T.Start(a, d)` (R63). -/
def State.startCall (s : State) (a : BusAddr) (d : Dir) : State :=
  { s with
    acks := s.acks.tail
    ackDraws := s.ackDraws + 1
    trace := s.trace ++ [.start a d (s.ackAt 0)] }

/-- `T.Write(v)` (R64). -/
def State.writeCall (s : State) (v : Byte) : State :=
  { s with
    acks := s.acks.tail
    ackDraws := s.ackDraws + 1
    trace := s.trace ++ [.write v (s.ackAt 0)] }

/-- `T.Read(false)` (R65); the sequencer never asks for more (R72). -/
def State.readCall (s : State) : State :=
  { s with
    reads := s.reads.tail
    byteDraws := s.byteDraws + 1
    trace := s.trace ++ [.read false (s.byteAt 0)] }

/-- `T.Stop()` (R66). -/
def State.stopCall (s : State) : State :=
  { s with trace := s.trace ++ [.stop] }

/-- `H.Yield()`: "the call changes no state of the sequencer" (R70). -/
def State.yieldCall (s : State) : State :=
  { s with trace := s.trace ++ [.yield] }

/-- `B.Read(IDX)` (R69). -/
def State.loadCall (s : State) : State :=
  { s with
    draws := s.draws + 1
    trace := s.trace ++ [.bufRead s.idx s.loadedByte] }

/-- `B.Write(IDX, DATA)` (R69). DESIGN CHOICE (log entry 6): the host's buffer has no length here, so a block read into a
buffer shorter than LEN goes on and adds the byte, where U12 says to refuse. -/
def State.storeCall (s : State) : State :=
  { s with
    buf := s.buf.write s.idx.toNat s.data
    trace := s.trace ++ [.bufWrite s.idx s.data] }

/-! ## The step pointer, issue, finish, reset -/

/-- `SEQ <- l` (R10). -/
def State.goto (s : State) (l : Label) : State := { s with seq := l }

/-- `HS <- h` (R25). -/
def State.withHs (s : State) (h : HsState) : State := { s with hs := h }

/-- `ATT <- ATT + 1` (R32). -/
def State.countAttempt (s : State) : State := { s with att := s.att + 1 }

/-- `DATA <- v` (R28). -/
def State.withData (s : State) (v : Byte) : State := { s with data := v }

/-- `PASS <- 1; SEQ <- C0`: the second pass of a config write (R34, R157). -/
def State.secondPass (s : State) : State := { s with pass := true, seq := .c0 }

/-- `IDX <- IDX + 1` (R33). -/
def State.countByte (s : State) : State := { s with idx := s.idx + 1 }

/-- `ACC <- 1; PASS <- 0; SEQ <- first`: the next byte of a block begins (R190); with `BLOCK_LATCH` true, the
alternative of 90 C13, ACC is kept. -/
def State.startByte (s : State) (first : Label) : State :=
  { s with acc := if s.cfg.blockLatch then s.acc else true, pass := false, seq := first }

/-- One of the free values that are no reply of the transport has been used. -/
def State.drawn (s : State) : State := { s with draws := s.draws + 1 }

/-- `finish(r)`: `RES <- r; BUSY <- 0; SEQ <- IDLE` (R11, R23). -/
def State.finish (s : State) (r : Result) : State :=
  { s with res := r, busy := false, seq := .idle }

/-- The issue of operation `i`, whose first step is `first` (R21). ACC is set to 1 for every operation, as R21 and R35 say.
DESIGN CHOICE (log entry 22): for RESET too, though R160 and R39 say RESET leaves ACC alone; the steps of RESET do. -/
def State.issue (s : State) (i : Instr) (first : Label) : State :=
  { s with
    opc := encode i
    busy := true
    res := .none
    acc := true
    att := 0
    pass := false
    idx := 0
    seq := first }

/-- The reset input (R37, R250, R251): the sequencer's state takes its reset values, no call is made. The
environment is not the sequencer's and stays. -/
def State.resetInput (s : State) : State :=
  { s with
    opc := 0x00
    addr := Config.unwrittenAddr s.draws
    len := Config.unwrittenLen s.draws
    data := Config.unwrittenData s.draws
    busy := false
    res := .none
    hs := .notStarted
    seq := .idle
    acc := true
    att := 0
    pass := false
    idx := 0
    draws := s.draws + 1
    trace := s.trace ++ [.resetInput s.busy] }

/-- Whether the step at this label makes a call that has to return (R233); the others are internal updates. -/
def Label.calls : Label → Bool
  | .idle => false
  | .bchk => false
  | .bnx => false
  | .h0 => true | .h1 => true | .h2 => true | .h3 => true | .h4 => true
  | .h5 => true | .h6 => true | .h7 => true | .h8 => true | .hr => true
  | .c0 => true | .c1 => true | .c2 => true | .c3 => true | .c4 => true
  | .d0 => true | .d1 => true | .d2 => true
  | .x0 => true | .x1 => true | .xr => true
  | .bld => true | .bst => true | .byl => true

/-- One step of an operation: issued when the sequencer is idle (R21), else the step at SEQ (R31), where
`micro` is the operation's micro-program and answers none at a label that is no step of it. -/
def operate (i : Instr) (first : Label) (micro : State → Option State) (s : State) : StepOutcome :=
  if s.busy then
    match micro s with
    | some t => .next t
    | none => .fault .labelOutsideOperation
  else .next (s.issue i first)

end Sys2Proof.Machine
end

