-- ==== Sys2Proof/Machine/Flags.lean ====
section
/-! DEFINITION. The flags: the encodings of RES and HS (10_state.md R24, R25), the STATUS byte (R22), the
status accumulator (R35, R150), the result of an operation (R162, R192), and the failure classes (60 R221). -/

namespace Sys2Proof.Machine

/-- The 2-bit encoding of `RES` (R24). -/
def Result.code : Result → BitVec 2
  | .none => 0b00
  | .ok => 0b01
  | .fail => 0b10
  | .unverified => 0b11

/-- The 2-bit encoding of `HS` (R25). -/
def HsState.code : HsState → BitVec 2
  | .notStarted => 0b00
  | .retrying => 0b01
  | .acknowledged => 0b10
  | .failed => 0b11

/-- STATUS: `BUSY` in bit 0, `RES` in bits 2:1, `HS` in bits 4:3, bits 7:5 read as 0 (R22). -/
def State.statusByte (s : State) : Byte :=
  (0 : BitVec 3) ++ s.hs.code ++ s.res.code ++ BitVec.ofBool s.busy

/-- `ACC <- ACC & a` for the acknowledge bit `a` of a counted step (R35, R150). -/
def State.counted (s : State) (a : Bool) : State := { s with acc := s.acc && a }

/-- A counted `T.Start` (R150). -/
def State.countedStart (s : State) (a : BusAddr) (d : Dir) : State :=
  (s.startCall a d).counted (s.ackAt 0)

/-- A counted `T.Write` (R150). -/
def State.countedWrite (s : State) (v : Byte) : State :=
  (s.writeCall v).counted (s.ackAt 0)

/-- The result the accumulator gives: `OK` if `ACC = 1`, `FAIL` if `ACC = 0` (R162). -/
def resultOfAcc (acc : Bool) : Result := if acc then .ok else .fail

/-- `finish(ACC = 1 ? OK : FAIL)` (R162). -/
def State.finishByAcc (s : State) : State := s.finish (resultOfAcc s.acc)

/-- `finish(r)`, r a draw from OK and FAIL: the result of a zero-length block (R190, R192). -/
def State.finishByDraw (s : State) : State :=
  s.drawn.finish (resultOfAcc (Config.freeZeroLengthOk s.draws))

/-- The failure classes (R221): "Class names are for rules, tests and a model's trace", "not recorded by the
hardware". -/
inductive FailureClass where
  | nackCmd
  | nackData
  | hsExhausted
  | unattributable
  | range
  | reservedOp
  deriving DecidableEq, Repr

end Sys2Proof.Machine
end

