-- ==== Sys2Proof/Machine/Operands.lean ====
section
/-! DEFINITION. The operands: addresses, payloads and the shape of the two-phase sequences they travel in
(30_encoding.md R101, R105, R106; 20_memory.md R71; 42_block.md R191, R201). -/

namespace Sys2Proof.Machine

/-- `v[15:8]`. -/
def highByte (v : Word) : Byte := v.extractLsb' 8 8

/-- `v[7:0]`. -/
def lowByte (v : Word) : Byte := v.extractLsb' 0 8

/-- What the data phase of a primitive does (R152, R153). -/
inductive DataPhase where
  /-- No data phase (ERASE, R154). -/
  | none
  /-- Read one byte (R153). -/
  | read
  /-- Write this byte (R152). -/
  | write (d : Byte)
  deriving DecidableEq, Repr

/-- A primitive of 41_primitives.md other than RESET: `CmdPhase(cmd, n, b1, b2)` with the n address bytes of
`addrBytes` (R151), then the data phase. -/
structure Prim where
  cmd : Byte
  addrBytes : List Byte
  data : DataPhase
  deriving DecidableEq, Repr

/-- A flash address on the wire: high byte first, always both (R71, R106). -/
def flashAddrBytes (a : Word) : List Byte := [highByte a, lowByte a]

/-- The flash address of the current byte of a block: `(ADDR + IDX)[15:0]` (R106, R201). -/
def State.blockFlashAddr (s : State) : Word := s.addr + s.idx

/-- The config address of the current byte of a block: `(ADDR[7:0] + IDX)[7:0]` (R106, R201). -/
def State.blockCfgAddr (s : State) : Byte := lowByte s.addr + lowByte s.idx

/-- ERASE (R154). -/
def State.erasePrim (s : State) : Prim :=
  { cmd := s.cfg.cmdErase, addrBytes := [], data := .none }

/-- Read a config byte (R155). -/
def State.rdcfgPrim (s : State) (a : Byte) : Prim :=
  { cmd := s.cfg.cmdRdcfg, addrBytes := [a], data := .read }

/-- Read a flash byte (R156). -/
def State.rdflashPrim (s : State) (a : Word) : Prim :=
  { cmd := s.cfg.cmdRdflash, addrBytes := flashAddrBytes a, data := .read }

/-- Write a config byte, one pass (R157); the payload is DATA. The command byte goes first and then the offset, as R151
says. DESIGN CHOICE (log entry 9): U14 lists the offset's position (D11) among the parameters, and the model has no field
for it, the spec naming no other layout. -/
def State.wrcfgPrim (s : State) (a : Byte) : Prim :=
  { cmd := s.cfg.cmdWrcfg, addrBytes := [a], data := .write s.data }

/-- Write a flash byte (R158); the payload is DATA. -/
def State.wrflashPrim (s : State) (a : Word) : Prim :=
  { cmd := s.cfg.cmdWrflash, addrBytes := flashAddrBytes a, data := .write s.data }

/-- The step after the start of a read-request: its read where `RREQ_READS_BYTE` is true, else its stop (D9). -/
def State.afterRequest (s : State) (read stop : Label) : Label := if s.cfg.rreqReadsByte then read else stop

/-- `A0 + LEN > BOUND` on the flash space, exact (R191). -/
def State.flashRangeFails (s : State) : Bool :=
  decide (s.cfg.flashSize < s.addr.toNat + s.len.toNat)

/-- `A0 + LEN > BOUND` on the config space, exact, `A0 = ADDR[7:0]` (R191). -/
def State.cfgRangeFails (s : State) : Bool :=
  decide (s.cfg.cfgSize < (lowByte s.addr).toNat + s.len.toNat)

end Sys2Proof.Machine
end

