-- ==== Sys2Proof/Machine/Phases.lean ====
section
/-! DEFINITION. The shared micro-programs: the steps of a primitive's command and data phase
(41_primitives.md R151 to R153), the double write (R157), and the steps of a block (42_block.md R190). Each
answers none at a label that is no step of it. -/

namespace Sys2Proof.Machine

/-- The step after `C1`: `C2` if there is an address byte, else `C4` (R151). -/
def Prim.afterCmd (p : Prim) : Label := if p.addrBytes.isEmpty then .c4 else .c2

/-- One step of a primitive (R151 to R153). `done` is what its last step does besides the stop. -/
def primStep (p : Prim) (done : State → State) (s : State) : Option State :=
  match s.seq with
  | .c0 => some ((s.countedStart s.cfg.addrCmd .write).goto .c1)
  | .c1 => some ((s.countedWrite p.cmd).goto p.afterCmd)
  | .c2 =>
    match p.addrBytes with
    | [] => none
    | [b1] => some ((s.countedWrite b1).goto .c4)
    | b1 :: _ :: _ => some ((s.countedWrite b1).goto .c3)
  | .c3 =>
    match p.addrBytes with
    | _ :: b2 :: _ => some ((s.countedWrite b2).goto .c4)
    | _ => none
  | .c4 =>
    match p.data with
    | .none => some (done s.stopCall)
    | .read => some (s.stopCall.goto .d0)
    | .write _ => some (s.stopCall.goto .d0)
  | .d0 =>
    match p.data with
    | .none => none
    | .read => some ((s.countedStart s.cfg.addrData .read).goto .d1)
    | .write _ => some ((s.countedStart s.cfg.addrData .write).goto .d1)
  | .d1 =>
    match p.data with
    | .none => none
    | .read => some ((s.readCall.withData (s.byteAt 0)).goto .d2)
    | .write d => some ((s.countedWrite d).goto .d2)
  | .d2 =>
    match p.data with
    | .none => none
    | .read => some (done s.stopCall)
    | .write _ => some (done s.stopCall)
  | _ => none

/-- What the last step of a config write's pass does: after the first pass the second begins, ACC carried
over; after the second, `done` (R157). -/
def doubled (done : State → State) (s : State) : State :=
  if s.pass then done s else s.secondPass

/-- Step `BCHK` (R190 to R192): range, then zero length, then the first byte. -/
def blockCheck (rangeFails : Bool) (first : Label) (s : State) : State :=
  if rangeFails then s.finish .fail
  else if s.len = 0 then s.finishByDraw
  else s.goto first

/-- Step `BNX` (R190, R193): the next byte, ACC set to 1 again and so the earlier outcome forgotten (unless the
parameter `BLOCK_LATCH` is true, 90 C13), or the end. -/
def blockNext (first : Label) (s : State) : State :=
  if s.idx + 1 < s.len then s.countByte.startByte first else s.countByte.finishByAcc

/-- One step of a block read (R190): `prim` is the step of the byte's primitive. -/
def blockReadStep (rangeFails : Bool) (prim : State → Option State) (s : State) : Option State :=
  match s.seq with
  | .bchk => some (blockCheck rangeFails .c0 s)
  | .bst => some (s.storeCall.goto .byl)
  | .byl => some (s.yieldCall.goto .bnx)
  | .bnx => some (blockNext .c0 s)
  | _ => prim s

/-- One step of a block write (R190). -/
def blockWriteStep (rangeFails : Bool) (prim : State → Option State) (s : State) : Option State :=
  match s.seq with
  | .bchk => some (blockCheck rangeFails .bld s)
  | .bld => some ((s.loadCall.withData s.loadedByte).goto .c0)
  | .bnx => some (blockNext .bld s)
  | _ => prim s

/-- Where `BLOCK_RANGE_CHECK` is false, step `BCHK` of a block whose range fails is refused (D13); every other step is
`o`. -/
def rangeGuard (rangeFails : Bool) (s : State) (o : StepOutcome) : StepOutcome :=
  if s.busy && s.seq == .bchk && rangeFails && !s.cfg.blockRangeCheck then .refused .blockOutOfRange else o

/-- After the last step of a byte's primitive in a block read: `BST` (R190). -/
def thenStore (s : State) : State := s.goto .bst

/-- After the last step of a byte's primitive in a block write: `BNX` (R190). -/
def thenNext (s : State) : State := s.goto .bnx

end Sys2Proof.Machine
end

