-- ==== Sys2Proof/Machine/Block.lean ====
section
/-! DEFINITION. The block operations (42_block.md R190 to R202). -/

namespace Sys2Proof.Machine

/-- RDFBLK a16, n16 (R196). -/
def execRdfblk (s : State) : StepOutcome :=
  rangeGuard s.flashRangeFails s <| operate .rdfblk .bchk
    (fun s => blockReadStep s.flashRangeFails (primStep (s.rdflashPrim s.blockFlashAddr) thenStore) s) s

/-- WRFBLK a16, n16 (R197). -/
def execWrfblk (s : State) : StepOutcome :=
  rangeGuard s.flashRangeFails s <| operate .wrfblk .bchk
    (fun s => blockWriteStep s.flashRangeFails (primStep (s.wrflashPrim s.blockFlashAddr) thenNext) s) s

/-- RDCBLK a8, n16 (R198). -/
def execRdcblk (s : State) : StepOutcome :=
  rangeGuard s.cfgRangeFails s <| operate .rdcblk .bchk
    (fun s => blockReadStep s.cfgRangeFails (primStep (s.rdcfgPrim s.blockCfgAddr) thenStore) s) s

/-- WRCBLK a8, n16: each byte twice (R199). -/
def execWrcblk (s : State) : StepOutcome :=
  rangeGuard s.cfgRangeFails s <| operate .wrcblk .bchk
    (fun s => blockWriteStep s.cfgRangeFails (primStep (s.wrcfgPrim s.blockCfgAddr) (doubled thenNext)) s) s

end Sys2Proof.Machine
end

