-- ==== Sys2Proof/Machine/Handshake.lean ====
section
/-! DEFINITION. HANDSHAKE (40_handshake.md R130 to R139). -/

namespace Sys2Proof.Machine

/-- Step `H2` (R133): one reset attempt, the only acknowledge that changes the path (R31, R135). -/
def handshakeAttempt (s : State) : State :=
  ((s.startCall s.cfg.addrReset s.cfg.dirHsReset).countAttempt).goto (if s.ackAt 0 then .h4 else .h3)

/-- Step `H3` (R133, R136): close the attempt; another while `ATT` is below the bound, else exhaustion. -/
def handshakeNacked (s : State) : State :=
  if s.att.toNat < s.cfg.retryBound then s.stopCall.goto .h2
  else (s.stopCall.withHs .failed).finish .fail

/-- The micro-program of HANDSHAKE (R130). The acknowledges of H0, H4, H5, H7 are ignored (R135). `hr` is
reached only where `RREQ_READS_BYTE` is true; its byte is discarded (log entry 9). -/
def handshakeStep (s : State) : Option State :=
  match s.seq with
  | .h0 => some (((s.startCall s.cfg.addrData s.cfg.dirPreamble).withHs .retrying).goto .h1)
  | .h1 => some (s.stopCall.goto .h2)
  | .h2 => some (handshakeAttempt s)
  | .h3 => some (handshakeNacked s)
  | .h4 => some ((s.writeCall s.cfg.hs1).goto .h5)
  | .h5 => some ((s.writeCall s.cfg.hs2).goto .h6)
  | .h6 => some (s.stopCall.goto .h7)
  | .h7 => some ((s.startCall s.cfg.addrCmd .read).goto (s.afterRequest .hr .h8))
  | .hr => some (s.readCall.goto .h8)
  | .h8 => some ((s.stopCall.withHs .acknowledged).finish .ok)
  | _ => none

/-- HANDSHAKE (R130). -/
def execHandshake (s : State) : StepOutcome := operate .handshake .h0 handshakeStep s

end Sys2Proof.Machine
end

