-- ==== Sys2Proof/Machine/Primitives.lean ====
section
/-! DEFINITION. The command primitives (41_primitives.md R154 to R160). -/

namespace Sys2Proof.Machine

/-- ERASE: one write transaction, no data phase (R154). -/
def execErase (s : State) : StepOutcome :=
  operate .erase .c0 (fun s => primStep s.erasePrim State.finishByAcc s) s

/-- RDCFG a8, `a8 = ADDR[7:0]` (R155). -/
def execRdcfg (s : State) : StepOutcome :=
  operate .rdcfg .c0 (fun s => primStep (s.rdcfgPrim (lowByte s.addr)) State.finishByAcc s) s

/-- RDFLASH a16, `a16 = ADDR` (R156). -/
def execRdflash (s : State) : StepOutcome :=
  operate .rdflash .c0 (fun s => primStep (s.rdflashPrim s.addr) State.finishByAcc s) s

/-- WRCFG a8, d8: the two-phase sequence twice (R157). -/
def execWrcfg (s : State) : StepOutcome :=
  operate .wrcfg .c0 (fun s => primStep (s.wrcfgPrim (lowByte s.addr)) (doubled State.finishByAcc) s) s

/-- WRFLASH a16, d8: once (R158). -/
def execWrflash (s : State) : StepOutcome :=
  operate .wrflash .c0 (fun s => primStep (s.wrflashPrim s.addr) State.finishByAcc s) s

/-- RDTYPE: RDCFG's shape at the fixed config offset; ADDR is not read (R159). -/
def execRdtype (s : State) : StepOutcome :=
  operate .rdtype .c0 (fun s => primStep (s.rdcfgPrim s.cfg.chiptypeOffset) State.finishByAcc s) s

/-- The micro-program of RESET (R160): a read-request, its acknowledge ignored. `xr` is reached only where
`RREQ_READS_BYTE` is true; its byte is discarded (log entry 9). -/
def resetMcuStep (s : State) : Option State :=
  match s.seq with
  | .x0 => some ((s.startCall s.cfg.addrReset .read).goto (s.afterRequest .xr .x1))
  | .xr => some (s.readCall.goto .x1)
  | .x1 => some (s.stopCall.finish .unverified)
  | _ => none

/-- RESET, "Reset MCU" (R160). -/
def execReset (s : State) : StepOutcome := operate .reset .x0 resetMcuStep s

end Sys2Proof.Machine
end

