-- ==== Sys2Proof/Machine/Dispatch.lean ====
section
/-! DEFINITION. The dispatch: one arm per operation of 30_encoding.md R102. -/

namespace Sys2Proof.Machine

def exec (i : Instr) (s : State) : Host.Outcome State Fault Refusal :=
  match i with
  | .handshake => Sys2Proof.Machine.execHandshake s
  | .reset => Sys2Proof.Machine.execReset s
  | .erase => Sys2Proof.Machine.execErase s
  | .rdtype => Sys2Proof.Machine.execRdtype s
  | .wrflash => Sys2Proof.Machine.execWrflash s
  | .rdflash => Sys2Proof.Machine.execRdflash s
  | .wrcfg => Sys2Proof.Machine.execWrcfg s
  | .rdcfg => Sys2Proof.Machine.execRdcfg s
  | .wrfblk => Sys2Proof.Machine.execWrfblk s
  | .rdfblk => Sys2Proof.Machine.execRdfblk s
  | .wrcblk => Sys2Proof.Machine.execWrcblk s
  | .rdcblk => Sys2Proof.Machine.execRdcblk s

end Sys2Proof.Machine
end

