-- ==== Sys2Proof/Machine/HostPort.lean ====
section
/-! DEFINITION. The host port (10_state.md R21, R22, R26 to R30), the reset input, and whose turn it is
(70_reset_and_hazards.md R265). -/

namespace Sys2Proof.Machine

/-- `HostRead(n)` (R30): the registers of R21, R22, R26 to R28, zero-extended; 0 for every other number (R29). -/
def State.hostRead (s : State) (n : Nat) : Word :=
  match n with
  | 0 => s.opc.setWidth 16
  | 1 => s.statusByte.setWidth 16
  | 2 => s.addr
  | 3 => s.len
  | 4 => s.data.setWidth 16
  | _ => 0

/-- A write of `v` to CMD while BUSY = 0: an opcode is issued (R21), any other byte sets OPC and `RES <- FAIL`
and does nothing else (R103), or has no step where the model refuses it (R265, U7; log entry 23). -/
def writeCmd (v : Byte) (s : State) : StepOutcome :=
  match decode v with
  | .op i => exec i s
  | .reject _ =>
    if s.cfg.refuseReservedOpcodes then .refused .reservedOpcodeWritten else .next { s with opc := v, res := .fail }

/-- `HostWrite(n, v)` (R30). While BUSY = 1 the write of a register is a move without a step (R265, U6; also at a yield,
U15), or ignored where the model does not refuse it (R30; log entry 23). An absent register ignores a write whatever BUSY
is (R29), STATUS while BUSY = 0 (R22).
CMD and DATA are 8 bits wide and take `v[7:0]` (log entry 13). -/
def hostWrite (n : Nat) (v : Word) (s : State) : StepOutcome :=
  if s.busy then
    if s.cfg.refuseBusyWrites && decide (n ≤ 4) then .refused .registerWrittenWhileBusy else .next s
  else
    match n with
    | 0 => writeCmd (lowByte v) s
    | 2 => .next { s with addr := v }
    | 3 => .next { s with len := v }
    | 4 => .next { s with data := lowByte v }
    | _ => .next s

/-- The call of the sequencer's step in progress does not return (R233). -/
def State.stuck (s : State) : Bool := s.stalled && s.seq.calls

/-- The sequencer's turn: idle, it does nothing (R250); in a call that does not return it stays (R233); else it
makes one step of the operation OPC holds (R21, R31). DESIGN CHOICE (log entry 14): a step whose call has not returned
has made none of its register updates, also not those written before the call: at `H0` HS still holds its old value, at
`H2` ATT does not yet count the attempt. -/
def sequencerTurn (s : State) : StepOutcome :=
  if s.busy then
    if s.stuck then .next s
    else
      match decode s.opc with
      | .op i => exec i s
      | .reject _ => .fault .opcodeNotDefined
  else .next s

/-- The move at the head of the script, the rest of it being `rest`. `await` stays until the sequencer is idle. -/
def takeMove (m : Move) (rest : List Move) (s : State) : StepOutcome :=
  match m with
  | .letStep => sequencerTurn { s with script := rest }
  | .await => if s.busy then sequencerTurn s else .next { s with script := rest }
  | .readReg n => .next { s with script := rest, seen := s.seen ++ [.reg n (s.hostRead n)] }
  | .writeReg n v => hostWrite n v { s with script := rest }
  | .readBuf i =>
    if s.busy then .refused .bufferTouchedWhileBusy
    else .next { s with script := rest, seen := s.seen ++ [.buf i (s.buf.read i)] }
  | .writeBuf i v =>
    if s.busy then .refused .bufferTouchedWhileBusy
    else .next { s with script := rest, buf := s.buf.write i v }
  | .stall => .next { s with script := rest, stalled := true }
  | .resume => .next { s with script := rest, stalled := false }
  | .assertReset => .next { s with script := rest }.resetInput

end Sys2Proof.Machine
end

