-- ==== Sys2Proof/Machine/Session.lean ====
section
/-! DEFINITION. The host session lines of 30_encoding.md R110: each line as the host-port calls it stands for. -/

namespace Sys2Proof.Machine

/-- A line of a host session (R110): a mnemonic of R102 with its operands. -/
inductive Line where
  | handshake
  | reset
  | erase
  | rdtype
  | wrflash (a : Word) (d : Byte)
  | rdflash (a : Word)
  | wrcfg (a : Byte) (d : Byte)
  | rdcfg (a : Byte)
  | wrfblk (a : Word) (n : Word)
  | rdfblk (a : Word) (n : Word)
  | wrcblk (a : Byte) (n : Word)
  | rdcblk (a : Byte) (n : Word)
  deriving DecidableEq, Repr

/-- The operation a line issues. -/
def Line.instr : Line → Instr
  | .handshake => .handshake
  | .reset => .reset
  | .erase => .erase
  | .rdtype => .rdtype
  | .wrflash _ _ => .wrflash
  | .rdflash _ => .rdflash
  | .wrcfg _ _ => .wrcfg
  | .rdcfg _ => .rdcfg
  | .wrfblk _ _ => .wrfblk
  | .rdfblk _ _ => .rdfblk
  | .wrcblk _ _ => .wrcblk
  | .rdcblk _ _ => .rdcblk

/-- The register writes of a line before the write to CMD (R110). -/
def Line.operandWrites : Line → List Move
  | .handshake => []
  | .reset => []
  | .erase => []
  | .rdtype => []
  | .wrflash a d => [.writeReg 2 a, .writeReg 4 (d.setWidth 16)]
  | .rdflash a => [.writeReg 2 a]
  | .wrcfg a d => [.writeReg 2 (a.setWidth 16), .writeReg 4 (d.setWidth 16)]
  | .rdcfg a => [.writeReg 2 (a.setWidth 16)]
  | .wrfblk a n => [.writeReg 2 a, .writeReg 3 n]
  | .rdfblk a n => [.writeReg 2 a, .writeReg 3 n]
  | .wrcblk a n => [.writeReg 2 (a.setWidth 16), .writeReg 3 n]
  | .rdcblk a n => [.writeReg 2 (a.setWidth 16), .writeReg 3 n]

/-- The host-port calls of a line (R110): operands, the opcode, then the polling loop. -/
def Line.moves (l : Line) : List Move :=
  l.operandWrites ++ [.writeReg 0 ((encode l.instr).setWidth 16), .await]

end Sys2Proof.Machine
end

