-- ==== Sys2Proof/Machine/Step.lean ====
section
/-! DEFINITION. One step of the machine: the host's next move, or the sequencer's turn where the host has
none to make. -/

namespace Sys2Proof.Machine

/-- One step (00_scope.md R7). -/
def step (s : State) : Host.Outcome State Fault Refusal :=
  match s.script with
  | [] => sequencerTurn s
  | m :: rest => takeMove m rest s

/-- The state in which the very next step issues the opcode of these bits: the sequencer idle, and the host's
next move the write of the byte to CMD (20_memory.md R80: "an instruction is the opcode written to CMD"). -/
def State.withFetchWord (s : State) (nbits w : Nat) : State :=
  { s with
    busy := false
    seq := .idle
    script := .writeReg 0 (BitVec.ofNat 16 (w % 2 ^ nbits)) :: s.script }

end Sys2Proof.Machine
end

