-- ==== Sys2Proof/Machine/Failures.lean ====
section
/-! DEFINITION. The failure classes of 60_exceptions.md R221, read off the state in which a step is made. The
hardware records none of them; no step calls these. -/

namespace Sys2Proof.Machine

/-- The operations whose data phase writes a payload byte (R152). -/
def writesByte : Instr → Bool
  | .wrflash => true
  | .wrcfg => true
  | .wrfblk => true
  | .wrcblk => true
  | .handshake => false
  | .reset => false
  | .erase => false
  | .rdtype => false
  | .rdflash => false
  | .rdcfg => false
  | .rdfblk => false
  | .rdcblk => false

/-- The range check of a block operation (R191). -/
def rangeFails (i : Instr) (s : State) : Bool :=
  match i with
  | .rdfblk => s.flashRangeFails
  | .wrfblk => s.flashRangeFails
  | .rdcblk => s.cfgRangeFails
  | .wrcblk => s.cfgRangeFails
  | .handshake => false
  | .reset => false
  | .erase => false
  | .rdtype => false
  | .wrflash => false
  | .rdflash => false
  | .wrcfg => false
  | .rdcfg => false

/-- The four block operations (R4). -/
def isBlock : Instr → Bool
  | .wrfblk => true
  | .rdfblk => true
  | .wrcblk => true
  | .rdcblk => true
  | .handshake => false
  | .reset => false
  | .erase => false
  | .rdtype => false
  | .wrflash => false
  | .rdflash => false
  | .wrcfg => false
  | .rdcfg => false

/-- The class of the counted step of operation `i` at `l` (R150, R221): a step of the command phase (C0 to C3) or of the
data phase (D0, and D1 of a write); none where the step is not counted. -/
def countedClass (i : Instr) (l : Label) : Option FailureClass :=
  match l with
  | .c0 => some .nackCmd
  | .c1 => some .nackCmd
  | .c2 => some .nackCmd
  | .c3 => some .nackCmd
  | .d0 => some .nackData
  | .d1 => if writesByte i then some .nackData else none
  | _ => none

/-- Whether the byte in progress decides the result: in a block operation the last byte alone (R193, R221), any byte where
`BLOCK_LATCH` is true (90 C13). -/
def decidesResult (i : Instr) (s : State) : Bool :=
  !isBlock i || s.cfg.blockLatch || s.idx + 1 == s.len

/-- The cause of failure, if any, that the step operation `i` makes at `s` adds (R221): a nack on a counted step of a byte
that decides the result, exhaustion at H3, RESET's end, a range failure at BCHK. -/
def failureAt (i : Instr) (s : State) : Option FailureClass :=
  match s.seq with
  | .h3 => if s.att.toNat < s.cfg.retryBound then none else some .hsExhausted
  | .x1 => some .unattributable
  | .bchk => if rangeFails i s then some .range else none
  | l => if !s.ackAt 0 && decidesResult i s then countedClass i l else none

/-- The cause of failure a write of `v` to CMD while idle adds (R103, R221). -/
def failureAtWrite (v : Byte) : Option FailureClass :=
  match decode v with
  | .op _ => none
  | .reject _ => some .reservedOp

end Sys2Proof.Machine
end

