-- ==== Sys2Proof/Machine/Frames.lean ====
section
/-! DEFINITION. The eight shapes of transaction (30_encoding.md R105), each as the trace it is, the answers
being arguments: the vocabulary in which claims about traces are written. No step calls these. -/

namespace Sys2Proof.Machine

/-- `AO`, address-only: `S(7F,W) P`. -/
def frameAO (c : Config) (a : Bool) : List Event :=
  [.start c.addrData c.dirPreamble a, .stop]

/-- `HN`, a reset attempt not acknowledged: `S(7C,W)=N P`. -/
def frameHN (c : Config) : List Event :=
  [.start c.addrReset c.dirHsReset false, .stop]

/-- `HF`, a reset attempt acknowledged: `S(7C,W)=A W(7D) W(2D) P`. -/
def frameHF (c : Config) (a1 a2 : Bool) : List Event :=
  [.start c.addrReset c.dirHsReset true, .write c.hs1 a1, .write c.hs2 a2, .stop]

/-- `RQ(a)`, a read-request: `S(a,R) P`; where `RREQ_READS_BYTE` is true, `S(a,R) R(last) P` (D9). -/
def frameRQ (c : Config) (addr : BusAddr) (a : Bool) (v : Byte) : List Event :=
  if c.rreqReadsByte then [.start addr .read a, .read false v, .stop] else [.start addr .read a, .stop]

/-- `CF0(c)`, a command frame with no address byte: `S(7E,W) W(c) P`. -/
def frameCF0 (c : Config) (cmd : Byte) (a0 a1 : Bool) : List Event :=
  [.start c.addrCmd .write a0, .write cmd a1, .stop]

/-- `CF1(c, a8)`, a command frame with one address byte: `S(7E,W) W(c) W(a8) P`. -/
def frameCF1 (c : Config) (cmd a8 : Byte) (a0 a1 a2 : Bool) : List Event :=
  [.start c.addrCmd .write a0, .write cmd a1, .write a8 a2, .stop]

/-- `CF2(c, a16)`, a command frame with two address bytes, high byte first. -/
def frameCF2 (c : Config) (cmd : Byte) (a16 : Word) (a0 a1 a2 a3 : Bool) : List Event :=
  [.start c.addrCmd .write a0, .write cmd a1, .write (highByte a16) a2, .write (lowByte a16) a3, .stop]

/-- `DW(d)`, a data write frame: `S(7F,W) W(d) P`. -/
def frameDW (c : Config) (d : Byte) (a0 a1 : Bool) : List Event :=
  [.start c.addrData .write a0, .write d a1, .stop]

/-- `DR`, a data read frame: `S(7F,R) R(last) P`. -/
def frameDR (c : Config) (a0 : Bool) (v : Byte) : List Event :=
  [.start c.addrData .read a0, .read false v, .stop]

end Sys2Proof.Machine
end

