-- ==== Sys2Proof/Machine/Run.lean ====
section
/-! DEFINITION. An operation run step after step: its issue, then its micro-program (10_state.md R21, R31). -/

namespace Sys2Proof.Machine

/-- `n` steps of operation `i`, stopping at the first fault or refusal. -/
def runOp (i : Instr) : Nat → State → StepOutcome
  | 0, s => .next s
  | n + 1, s =>
    match exec i s with
    | .next t => runOp i n t
    | .fault r => .fault r
    | .refused r => .refused r

end Sys2Proof.Machine
end

