-- ==== Sys2Proof/Safety.lean ====
section
/-! DEFINITION. What a safe state is, in the terms claims use: the control invariant of 10_state.md R23 to R35,
the framing of 20_memory.md R68, the values of 30_encoding.md R108. -/

namespace Sys2Proof.Machine

/-- The steps of each operation (R39's operations; R131, R151 to R160, R190 to R199). -/
def hasStep (i : Instr) (l : Label) : Bool :=
  match i with
  | .handshake => [Label.h0, .h1, .h2, .h3, .h4, .h5, .h6, .h7, .hr, .h8].contains l
  | .reset => [Label.x0, .xr, .x1].contains l
  | .erase => [Label.c0, .c1, .c4].contains l
  | .rdtype => [Label.c0, .c1, .c2, .c4, .d0, .d1, .d2].contains l
  | .wrflash => [Label.c0, .c1, .c2, .c3, .c4, .d0, .d1, .d2].contains l
  | .rdflash => [Label.c0, .c1, .c2, .c3, .c4, .d0, .d1, .d2].contains l
  | .wrcfg => [Label.c0, .c1, .c2, .c4, .d0, .d1, .d2].contains l
  | .rdcfg => [Label.c0, .c1, .c2, .c4, .d0, .d1, .d2].contains l
  | .wrfblk => [Label.bchk, .bld, .c0, .c1, .c2, .c3, .c4, .d0, .d1, .d2, .bnx].contains l
  | .rdfblk => [Label.bchk, .c0, .c1, .c2, .c3, .c4, .d0, .d1, .d2, .bst, .byl, .bnx].contains l
  | .wrcblk => [Label.bchk, .bld, .c0, .c1, .c2, .c4, .d0, .d1, .d2, .bnx].contains l
  | .rdcblk => [Label.bchk, .c0, .c1, .c2, .c4, .d0, .d1, .d2, .bst, .byl, .bnx].contains l

/-- The first step of each operation (R21, R130, R151, R160, R190). -/
def firstStep : Instr → Label
  | .handshake => .h0
  | .reset => .x0
  | .erase => .c0
  | .rdtype => .c0
  | .wrflash => .c0
  | .rdflash => .c0
  | .wrcfg => .c0
  | .rdcfg => .c0
  | .wrfblk => .bchk
  | .rdfblk => .bchk
  | .wrcblk => .bchk
  | .rdcblk => .bchk

/-- The labels of HANDSHAKE after `H0`: those at which `HS` is retrying (R25, R130). -/
def handshakeUnderWay (l : Label) : Bool :=
  [Label.h1, .h2, .h3, .h4, .h5, .h6, .h7, .hr, .h8].contains l

/-- The control invariant. -/
structure Inv (s : State) : Prop where
  /-- "SEQ = IDLE exactly when BUSY = 0" (R31). -/
  idle_iff : s.busy = false ↔ s.seq = .idle
  /-- While busy, OPC is an opcode and SEQ a step of its operation (R21, R31). -/
  at_step : s.busy = true → ∃ i, decode s.opc = .op i ∧ hasStep i s.seq = true
  /-- "Between those two events BUSY = 1, RES = NONE" (R23). -/
  res_none : s.busy = true → s.res = .none
  /-- An idle sequencer with no result has run nothing since reset (R24; the STATUS table of 95_test_vectors.md). -/
  none_fresh : s.busy = false → s.res = .none → s.hs = .notStarted
  /-- `UNVERIFIED` is "reported only by RESET" (R24). -/
  unverified : s.res = .unverified → decode s.opc = .op .reset
  /-- `HS` is retrying exactly while a HANDSHAKE is under way (R25; the STATUS table of 95_test_vectors.md). -/
  retrying_iff : s.hs = .retrying ↔ handshakeUnderWay s.seq = true
  /-- "never exceeds RETRY_BOUND" (R32). -/
  att_le : s.att.toNat ≤ s.cfg.retryBound
  /-- No attempt has been counted before the first one (R32, R130). -/
  att_zero : s.seq = .h0 ∨ s.seq = .h1 → s.att = 0
  /-- An attempt is made only below the bound (R133). -/
  att_lt : s.seq = .h2 → s.att.toNat < s.cfg.retryBound
  /-- The range check comes before the first byte (R33, R190). -/
  idx_zero : s.seq = .bchk → s.idx = 0
  /-- Inside a block the index is below LEN and the range has passed (R69, R191, R201). -/
  in_block : ∀ i, s.busy = true → decode s.opc = .op i → isBlock i = true → s.seq ≠ .bchk →
    s.idx < s.len ∧ rangeFails i s = false
  /-- A read-request reads a byte only where the parameter says so (D9). -/
  request_reads : s.seq = .hr ∨ s.seq = .xr → s.cfg.rreqReadsByte = true
  /-- The buffer is in canonical form. -/
  buf_wf : s.buf.wf = true
  /-- The configuration's own side conditions (R8, R32, R133). -/
  cfg_wf : s.cfg.wf = true

/-- What an event does to the open transaction; none where R68 does not hold. A reset in an open transaction leaves it
open with no stop to come: "the framing invariant no longer holds for that trace" (R251). -/
def frameNext (o : Option (BusAddr × Dir)) (e : Event) : Option (Option (BusAddr × Dir)) :=
  match e, o with
  | .start a d _, none => some (some (a, d))
  | .write _ _, some (a, .write) => some (some (a, .write))
  | .read _ _, some (a, .read) => some (some (a, .read))
  | .stop, some _ => some none
  | .yield, none => some none
  | .bufRead _ _, none => some none
  | .bufWrite _ _, none => some none
  | .resetInput _, none => some none
  | _, _ => none

/-- The open transaction after a trace; none where the trace breaks R68. -/
def frameOf (t : List Event) : Option (Option (BusAddr × Dir)) :=
  t.foldl (fun st e => st.bind (fun o => frameNext o e)) (some none)

/-- The transaction that SEQ implies is open: "whether a transaction is open is implied by SEQ" (R36). -/
def openAt (s : State) : Option (BusAddr × Dir) :=
  match s.seq with
  | .h1 => some (s.cfg.addrData, s.cfg.dirPreamble)
  | .h3 => some (s.cfg.addrReset, s.cfg.dirHsReset)
  | .h4 => some (s.cfg.addrReset, s.cfg.dirHsReset)
  | .h5 => some (s.cfg.addrReset, s.cfg.dirHsReset)
  | .h6 => some (s.cfg.addrReset, s.cfg.dirHsReset)
  | .hr => some (s.cfg.addrCmd, .read)
  | .h8 => some (s.cfg.addrCmd, .read)
  | .c1 => some (s.cfg.addrCmd, .write)
  | .c2 => some (s.cfg.addrCmd, .write)
  | .c3 => some (s.cfg.addrCmd, .write)
  | .c4 => some (s.cfg.addrCmd, .write)
  | .d1 => some (s.cfg.addrData, if ((decode s.opc).instr?.map writesByte).getD false then .write else .read)
  | .d2 => some (s.cfg.addrData, if ((decode s.opc).instr?.map writesByte).getD false then .write else .read)
  | .xr => some (s.cfg.addrReset, .read)
  | .x1 => some (s.cfg.addrReset, .read)
  | _ => none

/-- R68 with R36: the trace is well framed and the open transaction is the one SEQ implies. -/
def Framed (s : State) : Prop := frameOf s.trace = some (openAt s)

/-- "A run that contains a reset while BUSY = 1 has no meaning beyond the sequencer's registers" (R264, R251, U9): whether
a run with this trace has one. -/
def hasMeaning (t : List Event) : Bool := !t.contains (.resetInput true)

/-- R108, R72: the only bus addresses, and no continued read. -/
def allowedEvent (c : Config) : Event → Bool
  | .start a _ _ => a == c.addrReset || a == c.addrCmd || a == c.addrData
  | .read more _ => !more
  | .write _ _ => true
  | .stop => true
  | .yield => true
  | .bufRead _ _ => true
  | .bufWrite _ _ => true
  | .resetInput _ => true

/-- Two states that agree on everything that decides the path of an operation: operands, step pointer and counters,
but none of the answers, results and flags. -/
structure SamePath (s t : State) : Prop where
  cfg : s.cfg = t.cfg
  opc : s.opc = t.opc
  addr : s.addr = t.addr
  len : s.len = t.len
  busy : s.busy = t.busy
  seq : s.seq = t.seq
  att : s.att = t.att
  pass : s.pass = t.pass
  idx : s.idx = t.idx

end Sys2Proof.Machine
end

