-- ==== Sys2Proof/Certificates/Slice0/Obligations.lean ====
section
/-! DEFINITION. The statements for the provers. Before them the words they share: the spec's own tables, written
out here from the rules and not from the model's meanings. -/

namespace Sys2Proof.Machine

/-- The state after one call that returned an acknowledge bit, the event of it being `e` (R63, R64, R82). -/
def State.afterAck (s : State) (e : Event) : State :=
  { s with acks := s.acks.tail, ackDraws := s.ackDraws + 1, trace := s.trace ++ [e] }

/-- The state after one call that returned no reply of the transport (R66, R70). -/
def State.afterCall (s : State) (e : Event) : State := { s with trace := s.trace ++ [e] }

/-- The command byte and the address bytes of each operation that has a command phase (R106, R151, R154 to R159,
R196 to R199). -/
def commandTable (s : State) : List (Instr × Byte × List Byte) :=
  [(.erase, s.cfg.cmdErase, []),
   (.rdtype, s.cfg.cmdRdcfg, [s.cfg.chiptypeOffset]),
   (.rdcfg, s.cfg.cmdRdcfg, [s.addr.extractLsb' 0 8]),
   (.wrcfg, s.cfg.cmdWrcfg, [s.addr.extractLsb' 0 8]),
   (.rdflash, s.cfg.cmdRdflash, [s.addr.extractLsb' 8 8, s.addr.extractLsb' 0 8]),
   (.wrflash, s.cfg.cmdWrflash, [s.addr.extractLsb' 8 8, s.addr.extractLsb' 0 8]),
   (.rdcblk, s.cfg.cmdRdcfg, [s.addr.extractLsb' 0 8 + s.idx.extractLsb' 0 8]),
   (.wrcblk, s.cfg.cmdWrcfg, [s.addr.extractLsb' 0 8 + s.idx.extractLsb' 0 8]),
   (.rdfblk, s.cfg.cmdRdflash, [(s.addr + s.idx).extractLsb' 8 8, (s.addr + s.idx).extractLsb' 0 8]),
   (.wrfblk, s.cfg.cmdWrflash, [(s.addr + s.idx).extractLsb' 8 8, (s.addr + s.idx).extractLsb' 0 8])]

/-- The opcodes of R102. -/
def opcodeTable : List (Byte × Instr) :=
  [(0x01, .handshake), (0x02, .reset), (0x03, .erase), (0x04, .rdtype), (0x05, .wrflash), (0x06, .rdflash),
   (0x08, .wrcfg), (0x09, .rdcfg), (0x15, .wrfblk), (0x16, .rdfblk), (0x18, .wrcblk), (0x19, .rdcblk)]

/-- The operations whose data phase reads (R153). -/
def readOps : List Instr := [.rdtype, .rdcfg, .rdflash, .rdcblk, .rdfblk]

/-- The operations whose data phase writes (R152). -/
def writeOps : List Instr := [.wrcfg, .wrflash, .wrcblk, .wrfblk]

/-- The state right after the issue of `i` (R21). -/
def State.issued (s : State) (i : Instr) : State :=
  { s with
    opc := encode i, busy := true, res := .none, acc := true, att := 0, pass := false, idx := 0
    seq := firstStep i }

/-- The state after `finish(r)` (R23). -/
def State.finished (s : State) (r : Result) : State := { s with res := r, busy := false, seq := .idle }

/-- `ACC = 1 ? OK : FAIL` (R162). -/
def okIf (b : Bool) : Result := if b then .ok else .fail

/-- The state in which an operation ended that took `na` acknowledges and `nr` bytes from the transport, made the
events `es`, and left ACC = `acc`: everything else as at issue (R21, R162). -/
def State.ended (s : State) (i : Instr) (na nr : Nat) (acc : Bool) (es : List Event) : State :=
  { s with
    opc := encode i, busy := false, res := okIf acc, acc := acc, att := 0, pass := false, idx := 0, seq := .idle
    acks := s.acks.drop na, ackDraws := s.ackDraws + na, reads := s.reads.drop nr, byteDraws := s.byteDraws + nr
    trace := s.trace ++ es }

/-- The conjunction of the acknowledges number `k` to `k + n - 1` from here: ACC after those counted steps (R150). -/
def State.allAcked (s : State) (k n : Nat) : Bool := (List.range n).all (fun j => s.ackAt (k + j))

/-- The byte `B.Read(i)` gives in a block write issued at `s` (R195): the host's, else free. -/
def State.bufferByte (s : State) (i : Nat) : Byte := (s.buf.read i).getD (Config.freeBufferByte (s.draws + i))

/-- The address of byte `i` of a flash block (R201). -/
def State.flashAddrOf (s : State) (i : Nat) : Word := s.addr + BitVec.ofNat 16 i

/-- The address of byte `i` of a config block (R201). -/
def State.cfgAddrOf (s : State) (i : Nat) : Byte := s.addr.extractLsb' 0 8 + BitVec.ofNat 8 i

/-- One command phase and one data phase of a config byte write, its answers from number `k` on (R157). -/
def State.wrcfgPass (s : State) (a d : Byte) (k : Nat) : List Event :=
  frameCF1 s.cfg s.cfg.cmdWrcfg a (s.ackAt k) (s.ackAt (k + 1)) (s.ackAt (k + 2)) ++
    frameDW s.cfg d (s.ackAt (k + 3)) (s.ackAt (k + 4))

/-- The events of byte `i` of RDFBLK (R196). -/
def State.rdfblkByte (s : State) (i : Nat) : List Event :=
  frameCF2 s.cfg s.cfg.cmdRdflash (s.flashAddrOf i) (s.ackAt (5 * i)) (s.ackAt (5 * i + 1)) (s.ackAt (5 * i + 2))
      (s.ackAt (5 * i + 3)) ++
    frameDR s.cfg (s.ackAt (5 * i + 4)) (s.byteAt i) ++
    [.bufWrite (BitVec.ofNat 16 i) (s.byteAt i), .yield]

/-- The events of byte `i` of WRFBLK (R197). -/
def State.wrfblkByte (s : State) (i : Nat) : List Event :=
  [.bufRead (BitVec.ofNat 16 i) (s.bufferByte i)] ++
    frameCF2 s.cfg s.cfg.cmdWrflash (s.flashAddrOf i) (s.ackAt (6 * i)) (s.ackAt (6 * i + 1)) (s.ackAt (6 * i + 2))
      (s.ackAt (6 * i + 3)) ++
    frameDW s.cfg (s.bufferByte i) (s.ackAt (6 * i + 4)) (s.ackAt (6 * i + 5))

/-- The events of byte `i` of RDCBLK (R198). -/
def State.rdcblkByte (s : State) (i : Nat) : List Event :=
  frameCF1 s.cfg s.cfg.cmdRdcfg (s.cfgAddrOf i) (s.ackAt (4 * i)) (s.ackAt (4 * i + 1)) (s.ackAt (4 * i + 2)) ++
    frameDR s.cfg (s.ackAt (4 * i + 3)) (s.byteAt i) ++
    [.bufWrite (BitVec.ofNat 16 i) (s.byteAt i), .yield]

/-- The events of byte `i` of WRCBLK (R199). -/
def State.wrcblkByte (s : State) (i : Nat) : List Event :=
  [.bufRead (BitVec.ofNat 16 i) (s.bufferByte i)] ++
    s.wrcfgPass (s.cfgAddrOf i) (s.bufferByte i) (10 * i) ++ s.wrcfgPass (s.cfgAddrOf i) (s.bufferByte i) (10 * i + 5)

/-- How many bytes a read-request reads: none on this hardware (D9). -/
def State.requestReads (s : State) : Nat := if s.cfg.rreqReadsByte then 1 else 0

/-- What the registers hold when the operand writes of a session line have been made (R110). -/
def lineOperandsHeld (l : Line) (t : State) : Prop :=
  match l with
  | .handshake | .reset | .erase | .rdtype => True
  | .wrflash a d => t.addr = a ∧ t.data = d
  | .rdflash a => t.addr = a
  | .wrcfg a d => t.addr = a.setWidth 16 ∧ t.data = d
  | .rdcfg a => t.addr = a.setWidth 16
  | .wrfblk a n | .rdfblk a n => t.addr = a ∧ t.len = n
  | .wrcblk a n | .rdcblk a n => t.addr = a.setWidth 16 ∧ t.len = n

end Sys2Proof.Machine

open Sys2Proof Sys2Proof.Machine

/-! ## Encoding -/

/-- R102, R103: the opcode table decodes as it stands, and every byte not in it is rejected. -/
def Obligations.OpcodeTableDecodes : Prop :=
  (∀ p ∈ opcodeTable, decode p.1 = .op p.2) ∧
  (∀ b : Byte, (∀ p ∈ opcodeTable, p.1 ≠ b) → ∃ r, decode b = .reject r)

/-- R102: encoding and decoding agree in both directions, and every operation is well formed. -/
def Obligations.DecodeEncodeAgree : Prop :=
  (∀ i : Instr, i.wellFormed = true ∧ decode (encode i) = .op i) ∧
  (∀ (b : Byte) (i : Instr), decode b = .op i → b = encode i)

/-- R100, R103: a byte is rejected by the name of what is wrong with it: bits 7:5 not zero, a function code of no
operation, or a single-form function with the block bit. -/
def Obligations.RejectionNamesTheCause : Prop :=
  ∀ (b : Byte) (r : Reject), decode b = .reject r →
    (r = .zeroFieldNotZero ↔ b.extractLsb' 5 3 ≠ 0) ∧
    (r = .noBlockForm ↔ b ∈ ([0x11, 0x12, 0x13, 0x14] : List Byte))

/-! ## Reset -/

/-- R37: the reset values, of the machine after power-on and after the reset input from any state, and no call. The model's
choices in it: the list of moves (log entry 4), the mark in the trace (log entry 15), and that the environment, `stalled`
among it, is kept (log entries 2, 15). -/
def Obligations.ResetPutsTheResetState : Prop :=
  (State.reset.busy = false ∧ State.reset.res = .none ∧ State.reset.hs = .notStarted ∧ State.reset.seq = .idle ∧
    State.reset.opc = 0x00 ∧ State.reset.acc = true ∧ State.reset.att = 0 ∧ State.reset.pass = false ∧
    State.reset.idx = 0 ∧ State.reset.trace = []) ∧
  (∀ (s : State) (rest : List Move), s.script = .assertReset :: rest →
    ∃ t, step s = .next t ∧ t.busy = false ∧ t.res = .none ∧ t.hs = .notStarted ∧ t.seq = .idle ∧ t.opc = 0x00 ∧
      t.acc = true ∧ t.att = 0 ∧ t.pass = false ∧ t.idx = 0 ∧
      t.trace = s.trace ++ [.resetInput s.busy] ∧ t.script = rest ∧ t.cfg = s.cfg ∧ t.buf = s.buf ∧ t.acks = s.acks ∧
      t.reads = s.reads ∧ t.seen = s.seen ∧ t.stalled = s.stalled)

/-- R250: "after reset the sequencer is idle and does nothing until the host writes CMD". -/
def Obligations.IdleSequencerDoesNothing : Prop :=
  (∀ s : State, s.busy = false → s.script = [] → step s = .next s) ∧ step State.reset = .next State.reset

/-- R8, R104: every parameter's value on this hardware, CFG_SIZE being 255 by default and open from 1 to 255, and that no
step changes them (R36). -/
def Obligations.ConstantsAreTheSpecs : Prop :=
  State.reset.cfg = Config.default ∧
  (Config.default.addrReset = 0x7C ∧ Config.default.hs1 = 0x7D ∧ Config.default.hs2 = 0x2D ∧
    Config.default.addrCmd = 0x7E ∧ Config.default.addrData = 0x7F ∧ Config.default.cmdErase = 0x03 ∧
    Config.default.cmdWrflash = 0x05 ∧ Config.default.cmdRdflash = 0x06 ∧ Config.default.cmdWrcfg = 0x08 ∧
    Config.default.cmdRdcfg = 0x09 ∧ Config.default.chiptypeOffset = 0x00 ∧ Config.default.chiptypeExpect = 0x0A ∧
    Config.default.retryBound = 10 ∧ Config.default.flashSize = 8192 ∧ Config.default.blockSize = 512 ∧
    Config.default.blockCount = 16 ∧ Config.default.cfgSize = 255 ∧ Config.default.dirPreamble = .write ∧
    Config.default.dirHsReset = .write ∧ Config.default.rreqReadsByte = false ∧
    Config.default.blockRangeCheck = true ∧ Config.default.blockLatch = false) ∧
  (∀ s t : State, step s = .next t → t.cfg = s.cfg)

/-! ## The host port -/

/-- R22, with the encodings of R24 and R25: the STATUS byte, what HostRead(1) returns of it, and that a host write of it is
ignored, while BUSY = 1 where the model does not refuse it (R265, U6; log entry 23; HostWriteBusyIsIgnored). -/
def Obligations.StatusRegister : Prop :=
  (∀ s : State,
    (s.statusByte.extractLsb' 0 1 = 1 ↔ s.busy = true) ∧
    s.statusByte.extractLsb' 1 2 =
      (match s.res with | .none => 0b00 | .ok => 0b01 | .fail => 0b10 | .unverified => 0b11) ∧
    s.statusByte.extractLsb' 3 2 =
      (match s.hs with | .notStarted => 0b00 | .retrying => 0b01 | .acknowledged => 0b10 | .failed => 0b11) ∧
    s.statusByte.extractLsb' 5 3 = 0) ∧
  (∀ (s : State) (rest : List Move), s.script = .readReg 1 :: rest →
    step s = .next { s with script := rest, seen := s.seen ++ [.reg 1 (s.statusByte.setWidth 16)] }) ∧
  (∀ (s : State) (v : Word) (rest : List Move), (s.busy = true → s.cfg.refuseBusyWrites = false) →
    s.script = .writeReg 1 v :: rest → step s = .next { s with script := rest })

/-- R29: a register number above 4 reads as 0 and ignores a write, whatever BUSY is. -/
def Obligations.AbsentRegisters : Prop :=
  ∀ (s : State) (n : Nat) (v : Word) (rest : List Move), 5 ≤ n →
    (s.script = .readReg n :: rest → step s = .next { s with script := rest, seen := s.seen ++ [.reg n 0] }) ∧
    (s.script = .writeReg n v :: rest → step s = .next { s with script := rest })

/-- R29, R30: HostRead returns the register, at any time, with no side effect (the model's records of the move aside). -/
def Obligations.HostReadReturnsRegister : Prop :=
  ∀ (s : State) (n : Nat) (rest : List Move), s.script = .readReg n :: rest →
    ∃ v : Word, step s = .next { s with script := rest, seen := s.seen ++ [.reg n v] } ∧
      (n = 0 → v = s.opc.setWidth 16) ∧ (n = 1 → v = s.statusByte.setWidth 16) ∧ (n = 2 → v = s.addr) ∧
      (n = 3 → v = s.len) ∧ (n = 4 → v = s.data.setWidth 16) ∧ (5 ≤ n → v = 0)

/-- R22, R26 to R30: HostWrite while BUSY = 0. -/
def Obligations.HostWriteIdleWritesRegister : Prop :=
  ∀ (s : State) (n : Nat) (v : Word) (rest : List Move), s.busy = false → s.script = .writeReg n v :: rest →
    (n = 1 → step s = .next { s with script := rest }) ∧
    (n = 2 → step s = .next { s with script := rest, addr := v }) ∧
    (n = 3 → step s = .next { s with script := rest, len := v }) ∧
    (n = 4 → step s = .next { s with script := rest, data := v.extractLsb' 0 8 }) ∧
    (5 ≤ n → step s = .next { s with script := rest })

/-- R265, U6, U15: the host's write of a register while BUSY = 1 is a move without a step, as after reset; where the model
does not refuse it (its own parameter, log entry 23), and for an absent register always (R29), R30: "the write is ignored
whatever n is". -/
def Obligations.HostWriteBusyIsIgnored : Prop :=
  ∀ (s : State) (n : Nat) (v : Word) (rest : List Move), s.busy = true → s.script = .writeReg n v :: rest →
    (s.cfg.refuseBusyWrites = false ∨ 5 ≤ n → step s = .next { s with script := rest }) ∧
    (s.cfg.refuseBusyWrites = true → n ≤ 4 → step s = .refused .registerWrittenWhileBusy)

/-- R103: a reserved opcode makes no call, sets OPC and RES, and starts nothing; where the model refuses the write
("A model may instead refuse the write"; R265, U7; its own parameter, log entries 10, 23) it has no step. -/
def Obligations.ReservedOpcodeReportsFail : Prop :=
  ∀ (s : State) (b : Byte) (rest : List Move), s.busy = false → (∀ p ∈ opcodeTable, p.1 ≠ b) →
    s.script = .writeReg 0 (b.setWidth 16) :: rest →
    (s.cfg.refuseReservedOpcodes = false → step s = .next { s with script := rest, opc := b, res := .fail }) ∧
    (s.cfg.refuseReservedOpcodes = true → step s = .refused .reservedOpcodeWritten)

/-- R21: a write of an opcode to CMD while idle issues the operation, in one step. -/
def Obligations.OpcodeWriteIssuesOperation : Prop :=
  ∀ (s : State) (b : Byte) (i : Instr) (rest : List Move), s.busy = false → (b, i) ∈ opcodeTable →
    s.script = .writeReg 0 (b.setWidth 16) :: rest →
    step s = .next
      { s with
        script := rest, opc := b, busy := true, res := .none, acc := true, att := 0, pass := false, idx := 0
        seq := firstStep i }

/-- R69, R265: the host reads and writes its buffer while BUSY = 0; while BUSY = 1 the model gives it no such move
(the model's choice of a refusal, log entry 12). -/
def Obligations.HostBufferMoves : Prop :=
  ∀ (s : State) (a : Nat) (v : Byte) (rest : List Move),
    (s.busy = false → s.script = .writeBuf a v :: rest →
      ∃ t, step s = .next t ∧ t = { s with script := rest, buf := t.buf } ∧ t.buf.read a = some v ∧
        ∀ b, b ≠ a → t.buf.read b = s.buf.read b) ∧
    (s.busy = false → s.script = .readBuf a :: rest →
      step s = .next { s with script := rest, seen := s.seen ++ [.buf a (s.buf.read a)] }) ∧
    (s.busy = true → s.script = .writeBuf a v :: rest → step s = .refused .bufferTouchedWhileBusy) ∧
    (s.busy = true → s.script = .readBuf a :: rest → step s = .refused .bufferTouchedWhileBusy)

/-- R110: from idle, the register writes of a session line put its operands in the registers and issue its
operation; the line's polling loop comes next. -/
def Obligations.SessionLineIssuesItsOperation : Prop :=
  ∀ (l : Line) (s : State) (rest : List Move), s.busy = false → s.script = l.moves ++ rest →
    ∃ t, core.run (l.operandWrites.length + 1) s = .next t ∧ t.busy = true ∧ decode t.opc = .op l.instr ∧
      t.seq = firstStep l.instr ∧ t.script = .await :: rest ∧ lineOperandsHeld l t ∧ t.trace = s.trace ∧ t.hs = s.hs

/-! ## The step -/

/-- R31, R80: a step of a busy sequencer is exec of the operation OPC holds, and the write of an opcode to CMD while
idle is exec of that operation; the host's move made is taken off its script. That CMD takes v[7:0] of the 16 bits written
is the model's choice (DEDUCED, log entry 13). -/
def Obligations.StepRunsTheDecodedOperation : Prop :=
  ∀ (s : State) (i : Instr), i.wellFormed = true →
    (s.busy = true → (s.stalled && s.seq.calls) = false → decode s.opc = .op i →
      (s.script = [] → step s = exec i s) ∧
      (∀ rest, s.script = .await :: rest → step s = exec i s) ∧
      (∀ rest, s.script = .letStep :: rest → step s = exec i { s with script := rest })) ∧
    (∀ (v : Word) (rest : List Move), s.busy = false → s.script = .writeReg 0 v :: rest →
      decode (v.extractLsb' 0 8) = .op i → step s = exec i { s with script := rest })

/-- R233: in a call that does not return the sequencer stays, however long; whatever the host does but reset, no register,
no buffer byte and no event changes, until the call returns (the environment's move resume, log entry 14); reset makes
the sequencer idle. -/
def Obligations.UnreturnedCallIsStuck : Prop :=
  ∀ s : State, s.busy = true → s.stalled = true → s.seq.calls = true →
    (s.script = [] → ∀ n, core.run n s = .next s) ∧
    (∀ rest, s.script = .await :: rest → ∀ n, core.run n s = .next s) ∧
    (∀ t, step s = .next t → (∀ rest, s.script ≠ .assertReset :: rest) → (∀ rest, s.script ≠ .resume :: rest) →
      t = { s with script := t.script, seen := t.seen }) ∧
    (∀ rest, s.script = .assertReset :: rest → ∃ t, step s = .next t ∧ t.busy = false ∧ t.seq = .idle)

/-! ## The steps of the operations: every one completes -/

/-- R21: every operation, idle, is issued. -/
def Obligations.IssueOfEveryOperation : Prop :=
  ∀ (i : Instr) (s : State), s.busy = false → exec i s = .next (s.issued i)

/-- R130, R131: the nine steps of HANDSHAKE, and the read of its read-request where RREQ_READS_BYTE is true (D9; its place
and its discarded byte are the model's choice, log entry 9). -/
def Obligations.HandshakeSteps : Prop :=
  ∀ s : State, s.busy = true →
    (s.seq = .h0 → exec .handshake s =
      .next { s.afterAck (.start s.cfg.addrData s.cfg.dirPreamble (s.ackAt 0)) with hs := .retrying, seq := .h1 }) ∧
    (s.seq = .h1 → exec .handshake s = .next { s.afterCall .stop with seq := .h2 }) ∧
    (s.seq = .h2 → exec .handshake s =
      .next { s.afterAck (.start s.cfg.addrReset s.cfg.dirHsReset (s.ackAt 0)) with
        att := s.att + 1, seq := if s.ackAt 0 then .h4 else .h3 }) ∧
    (s.seq = .h3 → s.att.toNat < s.cfg.retryBound → exec .handshake s = .next { s.afterCall .stop with seq := .h2 }) ∧
    (s.seq = .h3 → s.cfg.retryBound ≤ s.att.toNat → exec .handshake s =
      .next { (s.afterCall .stop).finished .fail with hs := .failed }) ∧
    (s.seq = .h4 → exec .handshake s = .next { s.afterAck (.write s.cfg.hs1 (s.ackAt 0)) with seq := .h5 }) ∧
    (s.seq = .h5 → exec .handshake s = .next { s.afterAck (.write s.cfg.hs2 (s.ackAt 0)) with seq := .h6 }) ∧
    (s.seq = .h6 → exec .handshake s = .next { s.afterCall .stop with seq := .h7 }) ∧
    (s.seq = .h7 → exec .handshake s =
      .next { s.afterAck (.start s.cfg.addrCmd .read (s.ackAt 0)) with
        seq := if s.cfg.rreqReadsByte then .hr else .h8 }) ∧
    (s.seq = .hr → exec .handshake s =
      .next { s.afterCall (.read false (s.byteAt 0)) with
        reads := s.reads.tail, byteDraws := s.byteDraws + 1, seq := .h8 }) ∧
    (s.seq = .h8 → exec .handshake s = .next { (s.afterCall .stop).finished .ok with hs := .acknowledged })

/-- R160: the two steps of RESET, its acknowledge discarded, and the read of its read-request where RREQ_READS_BYTE is true
(D9, log entry 9). -/
def Obligations.ResetMcuSteps : Prop :=
  ∀ s : State, s.busy = true →
    (s.seq = .x0 → exec .reset s =
      .next { s.afterAck (.start s.cfg.addrReset .read (s.ackAt 0)) with
        seq := if s.cfg.rreqReadsByte then .xr else .x1 }) ∧
    (s.seq = .xr → exec .reset s =
      .next { s.afterCall (.read false (s.byteAt 0)) with
        reads := s.reads.tail, byteDraws := s.byteDraws + 1, seq := .x1 }) ∧
    (s.seq = .x1 → exec .reset s = .next ((s.afterCall .stop).finished .unverified))

/-- R151, R106: the command phase of the ten operations that have one, byte for byte. -/
def Obligations.CommandPhaseSteps : Prop :=
  ∀ (s : State) (i : Instr) (cmd : Byte) (bs : List Byte), (i, cmd, bs) ∈ commandTable s → s.busy = true →
    (s.seq = .c0 → exec i s =
      .next { s.afterAck (.start s.cfg.addrCmd .write (s.ackAt 0)) with acc := s.acc && s.ackAt 0, seq := .c1 }) ∧
    (s.seq = .c1 → exec i s =
      .next { s.afterAck (.write cmd (s.ackAt 0)) with
        acc := s.acc && s.ackAt 0, seq := if bs = [] then .c4 else .c2 }) ∧
    (∀ b r, bs = b :: r → s.seq = .c2 → exec i s =
      .next { s.afterAck (.write b (s.ackAt 0)) with
        acc := s.acc && s.ackAt 0, seq := if r = [] then .c4 else .c3 }) ∧
    (∀ b c, bs = [b, c] → s.seq = .c3 → exec i s =
      .next { s.afterAck (.write c (s.ackAt 0)) with acc := s.acc && s.ackAt 0, seq := .c4 }) ∧
    (i ≠ .erase → s.seq = .c4 → exec i s = .next { s.afterCall .stop with seq := .d0 }) ∧
    (i = .erase → s.seq = .c4 → exec i s = .next ((s.afterCall .stop).finished (okIf s.acc)))

/-- R152: the data phase of the four writing operations: start, payload, stop, after the command phase's own stop. -/
def Obligations.DataWriteSteps : Prop :=
  ∀ (s : State) (i : Instr), i ∈ writeOps → s.busy = true →
    (s.seq = .c4 → exec i s = .next { s.afterCall .stop with seq := .d0 }) ∧
    (s.seq = .d0 → exec i s =
      .next { s.afterAck (.start s.cfg.addrData .write (s.ackAt 0)) with acc := s.acc && s.ackAt 0, seq := .d1 }) ∧
    (s.seq = .d1 → exec i s =
      .next { s.afterAck (.write s.data (s.ackAt 0)) with acc := s.acc && s.ackAt 0, seq := .d2 }) ∧
    (s.seq = .d2 → ∃ t, exec i s = .next t ∧ t.trace = s.trace ++ [.stop] ∧ t.data = s.data ∧ t.acc = s.acc)

/-- R153: the data phase of the five reading operations: start, one last-byte read, stop, after the command phase's own
stop. DATA takes the byte returned, whatever ACC is, and ACC does not count the read. -/
def Obligations.DataReadSteps : Prop :=
  ∀ (s : State) (i : Instr), i ∈ readOps → s.busy = true →
    (s.seq = .c4 → exec i s = .next { s.afterCall .stop with seq := .d0 }) ∧
    (s.seq = .d0 → exec i s =
      .next { s.afterAck (.start s.cfg.addrData .read (s.ackAt 0)) with acc := s.acc && s.ackAt 0, seq := .d1 }) ∧
    (s.seq = .d1 → exec i s =
      .next { s.afterCall (.read false (s.byteAt 0)) with
        reads := s.reads.tail, byteDraws := s.byteDraws + 1, data := s.byteAt 0, seq := .d2 }) ∧
    (s.seq = .d2 → ∃ t, exec i s = .next t ∧ t.trace = s.trace ++ [.stop] ∧ t.data = s.data ∧ t.acc = s.acc)

/-- R157, R162, R190: the last stop of a data phase: a single operation finishes by ACC, a config write repeats its
sequence once with ACC carried over, a block goes on to BST or BNX. -/
def Obligations.DataPhaseEnds : Prop :=
  ∀ s : State, s.busy = true → s.seq = .d2 →
    (∀ i ∈ ([.rdtype, .rdcfg, .rdflash, .wrflash] : List Instr),
      exec i s = .next ((s.afterCall .stop).finished (okIf s.acc))) ∧
    (∀ i ∈ ([.wrcfg, .wrcblk] : List Instr), s.pass = false →
      exec i s = .next { s.afterCall .stop with pass := true, seq := .c0 }) ∧
    (s.pass = true → exec .wrcfg s = .next ((s.afterCall .stop).finished (okIf s.acc))) ∧
    (s.pass = true → exec .wrcblk s = .next { s.afterCall .stop with seq := .bnx }) ∧
    (∀ i ∈ ([.rdfblk, .rdcblk] : List Instr), exec i s = .next { s.afterCall .stop with seq := .bst }) ∧
    exec .wrfblk s = .next { s.afterCall .stop with seq := .bnx }

/-- R190 to R192: step BCHK of the four block operations: range, then zero length (a draw), then the first
byte. Where BLOCK_RANGE_CHECK is false a range that fails is refused (D13). -/
def Obligations.BlockCheckStep : Prop :=
  ∀ (s : State) (i : Instr) (a0 bound : Nat) (first : Label),
    (i, a0, bound, first) ∈
      ([(.rdfblk, s.addr.toNat, s.cfg.flashSize, .c0), (.wrfblk, s.addr.toNat, s.cfg.flashSize, .bld),
        (.rdcblk, (s.addr.extractLsb' 0 8).toNat, s.cfg.cfgSize, .c0),
        (.wrcblk, (s.addr.extractLsb' 0 8).toNat, s.cfg.cfgSize, .bld)] : List (Instr × Nat × Nat × Label)) →
    s.busy = true → s.seq = .bchk →
    (bound < a0 + s.len.toNat → s.cfg.blockRangeCheck = true → exec i s = .next (s.finished .fail)) ∧
    (bound < a0 + s.len.toNat → s.cfg.blockRangeCheck = false → exec i s = .refused .blockOutOfRange) ∧
    (a0 + s.len.toNat ≤ bound → s.len = 0 →
      ∃ r, (r = .ok ∨ r = .fail) ∧ exec i s = .next { s.finished r with draws := s.draws + 1 }) ∧
    (a0 + s.len.toNat ≤ bound → s.len ≠ 0 → exec i s = .next { s with seq := first })

/-- R190, R194, R195: the buffer steps and the yield of the block operations. -/
def Obligations.BlockBufferSteps : Prop :=
  ∀ s : State, s.busy = true →
    (∀ i ∈ ([.wrfblk, .wrcblk] : List Instr), s.seq = .bld → ∀ v, s.buf.read s.idx.toNat = some v →
      exec i s = .next { s.afterCall (.bufRead s.idx v) with draws := s.draws + 1, data := v, seq := .c0 }) ∧
    (∀ i ∈ ([.wrfblk, .wrcblk] : List Instr), s.seq = .bld → s.buf.read s.idx.toNat = none →
      ∃ v, exec i s = .next { s.afterCall (.bufRead s.idx v) with draws := s.draws + 1, data := v, seq := .c0 }) ∧
    (∀ i ∈ ([.rdfblk, .rdcblk] : List Instr), s.seq = .bst →
      ∃ m : Memory, exec i s = .next { s.afterCall (.bufWrite s.idx s.data) with buf := m, seq := .byl } ∧
        m.read s.idx.toNat = some s.data ∧ ∀ a, a ≠ s.idx.toNat → m.read a = s.buf.read a) ∧
    (∀ i ∈ ([.rdfblk, .rdcblk] : List Instr), s.seq = .byl →
      exec i s = .next { s.afterCall .yield with seq := .bnx })

/-- R190, R193: step BNX of the four block operations: the next byte with ACC set to 1 again, or the end. -/
def Obligations.BlockNextStep : Prop :=
  ∀ (s : State) (i : Instr) (first : Label),
    (i, first) ∈ ([(.rdfblk, .c0), (.rdcblk, .c0), (.wrfblk, .bld), (.wrcblk, .bld)] : List (Instr × Label)) →
    s.busy = true → s.seq = .bnx → s.cfg.blockLatch = false → s.idx < s.len →
    (s.idx + 1 < s.len → exec i s =
      .next { s with idx := s.idx + 1, acc := true, pass := false, seq := first }) ∧
    (s.idx + 1 = s.len → exec i s = .next { s.finished (okIf s.acc) with idx := s.idx + 1 })

/-! ## The operations from issue to finish -/

/-- R154: ERASE. -/
def Obligations.EraseFromIssueToFinish : Prop :=
  ∀ s : State, s.busy = false →
    runOp .erase 4 s =
      .next (s.ended .erase 2 0 (s.allAcked 0 2) (frameCF0 s.cfg s.cfg.cmdErase (s.ackAt 0) (s.ackAt 1)))

/-- R155: RDCFG. -/
def Obligations.RdcfgFromIssueToFinish : Prop :=
  ∀ s : State, s.busy = false →
    runOp .rdcfg 8 s =
      .next
        { s.ended .rdcfg 4 1 (s.allAcked 0 4)
            (frameCF1 s.cfg s.cfg.cmdRdcfg (s.addr.extractLsb' 0 8) (s.ackAt 0) (s.ackAt 1) (s.ackAt 2) ++
              frameDR s.cfg (s.ackAt 3) (s.byteAt 0)) with
          data := s.byteAt 0 }

/-- R159: RDTYPE: RDCFG's shape at the chip-type offset, ADDR not used, the byte not looked at. -/
def Obligations.RdtypeFromIssueToFinish : Prop :=
  ∀ s : State, s.busy = false →
    runOp .rdtype 8 s =
      .next
        { s.ended .rdtype 4 1 (s.allAcked 0 4)
            (frameCF1 s.cfg s.cfg.cmdRdcfg s.cfg.chiptypeOffset (s.ackAt 0) (s.ackAt 1) (s.ackAt 2) ++
              frameDR s.cfg (s.ackAt 3) (s.byteAt 0)) with
          data := s.byteAt 0 }

/-- R156: RDFLASH. -/
def Obligations.RdflashFromIssueToFinish : Prop :=
  ∀ s : State, s.busy = false →
    runOp .rdflash 9 s =
      .next
        { s.ended .rdflash 5 1 (s.allAcked 0 5)
            (frameCF2 s.cfg s.cfg.cmdRdflash s.addr (s.ackAt 0) (s.ackAt 1) (s.ackAt 2) (s.ackAt 3) ++
              frameDR s.cfg (s.ackAt 4) (s.byteAt 0)) with
          data := s.byteAt 0 }

/-- R158: WRFLASH, sent once. -/
def Obligations.WrflashFromIssueToFinish : Prop :=
  ∀ s : State, s.busy = false →
    runOp .wrflash 9 s =
      .next
        (s.ended .wrflash 6 0 (s.allAcked 0 6)
          (frameCF2 s.cfg s.cfg.cmdWrflash s.addr (s.ackAt 0) (s.ackAt 1) (s.ackAt 2) (s.ackAt 3) ++
            frameDW s.cfg s.data (s.ackAt 4) (s.ackAt 5)))

/-- R157: WRCFG, the whole sequence twice, whatever the answers; ACC carried over; PASS left at 1. -/
def Obligations.WrcfgFromIssueToFinish : Prop :=
  ∀ s : State, s.busy = false →
    runOp .wrcfg 15 s =
      .next
        { s.ended .wrcfg 10 0 (s.allAcked 0 10)
            (s.wrcfgPass (s.addr.extractLsb' 0 8) s.data 0 ++ s.wrcfgPass (s.addr.extractLsb' 0 8) s.data 5) with
          pass := true }

/-- R160: RESET, for both values of RREQ_READS_BYTE. ACC is 1 from the issue (R21; the model's choice beside R160, log
entry 22). -/
def Obligations.ResetMcuFromIssueToFinish : Prop :=
  ∀ s : State, s.busy = false →
    runOp .reset (3 + s.requestReads) s =
      .next
        { s.ended .reset 1 s.requestReads true (frameRQ s.cfg s.cfg.addrReset (s.ackAt 0) (s.byteAt 0)) with
          res := .unverified }

/-- R138: HANDSHAKE whose attempt `k` is the first acknowledged: `k + 2` transactions, `2k + 6` calls, and one
more where RREQ_READS_BYTE is true (D9). -/
def Obligations.HandshakeAcknowledgedAtAttempt : Prop :=
  ∀ (s : State) (k : Nat), s.busy = false → s.cfg.retryBound ≤ 15 → 1 ≤ k → k ≤ s.cfg.retryBound →
    (∀ j, 1 ≤ j → j < k → s.ackAt j = false) → s.ackAt k = true →
    runOp .handshake (1 + (2 * k + 6) + s.requestReads) s =
      .next
        { s.ended .handshake (k + 4) s.requestReads true
            (frameAO s.cfg (s.ackAt 0) ++ (List.replicate (k - 1) (frameHN s.cfg)).flatten ++
              frameHF s.cfg (s.ackAt (k + 1)) (s.ackAt (k + 2)) ++ frameRQ s.cfg s.cfg.addrCmd (s.ackAt (k + 3)) (s.byteAt 0)) with
          hs := .acknowledged, att := BitVec.ofNat 4 k }

/-- R136, R138: HANDSHAKE whose attempts are all answered nack. -/
def Obligations.HandshakeExhausted : Prop :=
  ∀ s : State, s.busy = false → 1 ≤ s.cfg.retryBound → s.cfg.retryBound ≤ 15 →
    (∀ j, 1 ≤ j → j ≤ s.cfg.retryBound → s.ackAt j = false) →
    runOp .handshake (1 + (2 * s.cfg.retryBound + 2)) s =
      .next
        { s.ended .handshake (s.cfg.retryBound + 1) 0 true
            (frameAO s.cfg (s.ackAt 0) ++ (List.replicate s.cfg.retryBound (frameHN s.cfg)).flatten) with
          res := .fail, hs := .failed, att := BitVec.ofNat 4 s.cfg.retryBound }

/-- R190, R193 to R196, R202: RDFBLK of `LEN ≥ 1` bytes inside the flash space: every byte in ascending order, written
to the buffer, a yield after each; the result is the last byte's. -/
def Obligations.RdfblkFromIssueToFinish : Prop :=
  ∀ (s : State) (n : Nat), s.busy = false → s.cfg.blockLatch = false → s.len.toNat = n → 1 ≤ n →
    s.addr.toNat + n ≤ s.cfg.flashSize →
    runOp .rdfblk (2 + 11 * n) s =
      .next
        { s.ended .rdfblk (5 * n) n (s.allAcked (5 * (n - 1)) 5) ((List.range n).flatMap s.rdfblkByte) with
          data := s.byteAt (n - 1), idx := s.len
          buf := (List.range n).foldl (fun m i => m.write i (s.byteAt i)) s.buf }

/-- R190, R193, R195, R197, R202: WRFBLK of `LEN ≥ 1` bytes inside the flash space: each byte once, no yield. -/
def Obligations.WrfblkFromIssueToFinish : Prop :=
  ∀ (s : State) (n : Nat), s.busy = false → s.cfg.blockLatch = false → s.len.toNat = n → 1 ≤ n →
    s.addr.toNat + n ≤ s.cfg.flashSize →
    runOp .wrfblk (2 + 10 * n) s =
      .next
        { s.ended .wrfblk (6 * n) 0 (s.allAcked (6 * (n - 1)) 6) ((List.range n).flatMap s.wrfblkByte) with
          data := s.bufferByte (n - 1), idx := s.len, draws := s.draws + n }

/-- R190, R193 to R195, R198, R202: RDCBLK of `LEN ≥ 1` bytes inside the config space. -/
def Obligations.RdcblkFromIssueToFinish : Prop :=
  ∀ (s : State) (n : Nat), s.busy = false → s.cfg.blockLatch = false → s.len.toNat = n → 1 ≤ n →
    (s.addr.extractLsb' 0 8).toNat + n ≤ s.cfg.cfgSize →
    runOp .rdcblk (2 + 10 * n) s =
      .next
        { s.ended .rdcblk (4 * n) n (s.allAcked (4 * (n - 1)) 4) ((List.range n).flatMap s.rdcblkByte) with
          data := s.byteAt (n - 1), idx := s.len
          buf := (List.range n).foldl (fun m i => m.write i (s.byteAt i)) s.buf }

/-- R190, R193, R195, R199, R202: WRCBLK of `LEN ≥ 1` bytes inside the config space: each byte's whole sequence twice,
from one buffer read. -/
def Obligations.WrcblkFromIssueToFinish : Prop :=
  ∀ (s : State) (n : Nat), s.busy = false → s.cfg.blockLatch = false → s.len.toNat = n → 1 ≤ n →
    (s.addr.extractLsb' 0 8).toNat + n ≤ s.cfg.cfgSize →
    runOp .wrcblk (2 + 16 * n) s =
      .next
        { s.ended .wrcblk (10 * n) 0 (s.allAcked (10 * (n - 1)) 10) ((List.range n).flatMap s.wrcblkByte) with
          data := s.bufferByte (n - 1), idx := s.len, draws := s.draws + n, pass := true }

/-- R191, R192: a block operation whose range fails ends with FAIL and an empty trace; one of length zero whose range
passes ends with OK or FAIL, which of them is open, and an empty trace. Where BLOCK_RANGE_CHECK is false a range that fails is
refused (D13). -/
def Obligations.BlockRangeAndZeroLength : Prop :=
  ∀ (s : State) (i : Instr) (a0 bound : Nat),
    (i, a0, bound) ∈
      ([(.rdfblk, s.addr.toNat, s.cfg.flashSize), (.wrfblk, s.addr.toNat, s.cfg.flashSize),
        (.rdcblk, (s.addr.extractLsb' 0 8).toNat, s.cfg.cfgSize),
        (.wrcblk, (s.addr.extractLsb' 0 8).toNat, s.cfg.cfgSize)] : List (Instr × Nat × Nat)) →
    s.busy = false →
    (bound < a0 + s.len.toNat → s.cfg.blockRangeCheck = true →
      runOp i 2 s = .next { s.ended i 0 0 true [] with res := .fail }) ∧
    (bound < a0 + s.len.toNat → s.cfg.blockRangeCheck = false → runOp i 2 s = .refused .blockOutOfRange) ∧
    (a0 + s.len.toNat ≤ bound → s.len = 0 →
      ∃ r, (r = .ok ∨ r = .fail) ∧
        runOp i 2 s = .next { s.ended i 0 0 true [] with res := r, draws := s.draws + 1 })

/-- R233, R264: provided every call returns, every operation issued ends, within a bound of steps after its issue. (Where
BLOCK_RANGE_CHECK is false, a block whose range fails is refused and not issued to its end: D13.) -/
def Obligations.EveryOperationTerminates : Prop :=
  ∀ (s : State) (i : Instr), s.busy = false → s.stalled = false → s.cfg.retryBound ≤ 15 →
    (rangeFails i s = true → s.cfg.blockRangeCheck = true) →
    s.script = [.writeReg 0 ((encode i).setWidth 16)] →
    ∃ n t, 1 ≤ n ∧ n ≤ 15 + 2 * s.cfg.retryBound + 16 * s.len.toNat ∧ core.run n s = .next t ∧ t.script = [] ∧
      t.busy = false ∧ t.res ≠ .none ∧ t.opc = encode i

/-! ## Invariants -/

/-- The control invariant, the framing of the trace and the values emitted hold after reset. -/
def Obligations.ResetMeetsTheInvariants : Prop :=
  Inv State.reset ∧ Framed State.reset ∧ State.reset.trace.all (allowedEvent State.reset.cfg) = true

/-- R23 to R25, R31 to R33, R69, R191: every step keeps the control invariant. -/
def Obligations.StepKeepsControlInvariant : Prop :=
  ∀ s t : State, Inv s → step s = .next t → Inv t

/-- R68, R36, R251: every step keeps the trace well framed, the open transaction being the one SEQ implies, but for a reset in
an open transaction: after that the framing no longer holds of the trace, and the run has no meaning (R264). -/
def Obligations.StepKeepsFraming : Prop :=
  ∀ s t : State, Inv s → Framed s → step s = .next t →
    ((openAt s = none ∨ ∀ rest, s.script ≠ .assertReset :: rest) → Framed t) ∧
    (openAt s ≠ none → (∃ rest, s.script = .assertReset :: rest) →
      frameOf t.trace = none ∧ hasMeaning t.trace = false)

/-- R72, R108: only the three bus addresses are ever addressed, and no continued read is made. -/
def Obligations.StepEmitsAllowedValues : Prop :=
  ∀ s t : State, s.trace.all (allowedEvent s.cfg) = true → step s = .next t → t.trace.all (allowedEvent t.cfg) = true

/-- Every step keeps the buffer in its canonical form, whatever the rest of the state. -/
def Obligations.StepKeepsBufferCanonical : Prop :=
  ∀ s t : State, s.buf.wf = true → step s = .next t → t.buf.wf = true

/-- R220, R31: from a state of the invariant no step faults, and the refusals are of the host's forbidden moves (its buffer
while busy, log entry 12; a register while busy, a reserved opcode, log entry 23), and D13's. -/
def Obligations.InvariantStatesNeverFault : Prop :=
  ∀ s : State, Inv s →
    (∀ f, step s ≠ .fault f) ∧
    (∀ r, step s = .refused r →
      (r = .bufferTouchedWhileBusy ∧ s.busy = true ∧
        ∃ rest, (∃ a, s.script = .readBuf a :: rest) ∨ (∃ a v, s.script = .writeBuf a v :: rest)) ∨
      (r = .registerWrittenWhileBusy ∧ s.busy = true ∧ s.cfg.refuseBusyWrites = true ∧
        ∃ n v rest, n ≤ 4 ∧ s.script = .writeReg n v :: rest) ∨
      (r = .reservedOpcodeWritten ∧ s.busy = false ∧ s.cfg.refuseReservedOpcodes = true ∧
        ∃ v rest q, s.script = .writeReg 0 v :: rest ∧ decode (v.extractLsb' 0 8) = .reject q) ∨
      (r = .blockOutOfRange ∧ s.busy = true ∧ s.seq = .bchk ∧ s.cfg.blockRangeCheck = false ∧
        ∃ i, decode s.opc = .op i ∧ rangeFails i s = true))

/-! ## What operations leave alone -/

/-- R26, R27, R36: no operation ever writes ADDR, LEN or the constants, nor the host's moves and records. -/
def Obligations.OperationsNeverWriteOperands : Prop :=
  ∀ (i : Instr) (s t : State), exec i s = .next t →
    t.addr = s.addr ∧ t.len = s.len ∧ t.cfg = s.cfg ∧ t.script = s.script ∧ t.seen = s.seen ∧ t.stalled = s.stalled ∧
      t.opc = (if s.busy then s.opc else encode i)

/-- R28: DATA is written by the read step of a data phase and by BLD, and by nothing else. -/
def Obligations.DataWrittenOnlyByReadAndLoad : Prop :=
  ∀ (i : Instr) (s t : State), exec i s = .next t →
    t.data =
      (if s.busy = true ∧ s.seq = .d1 ∧ i ∈ readOps then s.byteAt 0
       else if s.busy = true ∧ s.seq = .bld then s.loadedByte
       else s.data) ∧
    ((s.busy = true ∧ s.seq = .bld) → i = .wrfblk ∨ i = .wrcblk)

/-- R25, R32, R34, R33, R39: HS is written by HANDSHAKE alone; after issue ATT by HANDSHAKE alone, PASS by WRCFG and WRCBLK
alone (in the three other blocks, where R190 sets it to 0 again with every byte, it stays 0), IDX by step BNX alone. -/
def Obligations.FlagAndCounterWriters : Prop :=
  ∀ (i : Instr) (s t : State), exec i s = .next t →
    (i ≠ .handshake → t.hs = s.hs) ∧
    (s.busy = true → i ≠ .handshake → t.att = s.att) ∧
    (s.busy = true → i ≠ .wrcfg → isBlock i = false → t.pass = s.pass) ∧
    (s.busy = true → i ≠ .wrcblk → isBlock i = true → s.pass = false → t.pass = false) ∧
    (s.busy = true → t.idx = if s.seq = .bnx then s.idx + 1 else s.idx) ∧
    (s.busy = true → (i = .handshake ∨ i = .reset) → t.acc = s.acc) ∧
    (s.busy = true → t.res = s.res ∨ t.busy = false)

/-- R69: the buffer is written by step BST of a block read, at index IDX, and by nothing else; every other index reads as
before. -/
def Obligations.BufferWrittenOnlyAtIndex : Prop :=
  ∀ (i : Instr) (s t : State), exec i s = .next t →
    (s.busy = true ∧ s.seq = .bst → (i = .rdfblk ∨ i = .rdcblk) ∧ t.buf.read s.idx.toNat = some s.data ∧
      ∀ a, a ≠ s.idx.toNat → t.buf.read a = s.buf.read a) ∧
    (¬(s.busy = true ∧ s.seq = .bst) → t.buf = s.buf)

/-- R7, R131: a step of an operation makes exactly one interface call, or none where it is an internal update. -/
def Obligations.OneCallPerStep : Prop :=
  (∀ (i : Instr) (s t : State), exec i s = .next t → s.busy = true →
    if s.seq.calls = true then ∃ e, (∀ b, e ≠ .resetInput b) ∧ t.trace = s.trace ++ [e] else t.trace = s.trace) ∧
  (∀ s t : State, step s = .next t → ∃ es, es.length ≤ 1 ∧ t.trace = s.trace ++ es)

/-- R23: BUSY rises by the issue of an opcode alone and falls by a finish, with a result, or by reset alone. -/
def Obligations.BusyChangesOnlyByIssueFinishReset : Prop :=
  ∀ s t : State, step s = .next t →
    (s.busy = false → t.busy = true →
      ∃ v rest i, s.script = .writeReg 0 v :: rest ∧ decode (v.extractLsb' 0 8) = .op i ∧ t.opc = encode i ∧ t.res = .none) ∧
    (s.busy = true → t.busy = false →
      (t.seq = .idle ∧ t.res ≠ .none) ∨ ∃ rest, s.script = .assertReset :: rest)

/-! ## Whole-machine rules -/

/-- R225, R150: a nack on a counted step clears ACC and changes nothing else: the state is the one an acknowledge would
have given, but for ACC and the answer recorded in the event of the one call, a start or a write. -/
def Obligations.NackChangesOnlyAcc : Prop :=
  ∀ (i : Instr) (s t : State), s.busy = true →
    (countedClass i s.seq ≠ none ∧ s.ackAt 0 = false) → exec i s = .next t →
    ∃ (u : State) (e : Bool → Event), exec i { s with acks := true :: s.acks.tail } = .next u ∧
      ((∃ a d, e = .start a d) ∨ ∃ v, e = .write v) ∧
      u.trace = s.trace ++ [e true] ∧ u.acc = s.acc ∧
      t = { u with acc := false, trace := s.trace ++ [e false] } ∧ t.busy = true

/-- R31, R150: no answer of the environment, nor any flag, decides the path of an operation, but for the acknowledge at
H2: two states that agree on operands, step pointer and counters go on to two that do. -/
def Obligations.AnswersNeverChangeThePath : Prop :=
  ∀ (i : Instr) (s s' t : State), SamePath s s' → s.seq ≠ .h2 → exec i s = .next t →
    ∃ t', exec i s' = .next t' ∧ SamePath t t'

/-- R227, R139(g): HS gates nothing: an operation runs the same in every Handshake State. -/
def Obligations.HandshakeStateGatesNothing : Prop :=
  ∀ (i : Instr) (s t : State) (h : HsState), exec i s = .next t →
    ∃ h', exec i { s with hs := h } = .next { t with hs := h' } ∧ (i ≠ .handshake → h' = h)

/-- R221, R222: what a step makes of a failure, and what a finish reports. ACC falls by a nack on a counted step alone, whose
class is the failure's where the byte decides the result; RESET always reports UNVERIFIED; FAIL of HANDSHAKE is exhaustion;
a block's BCHK reports FAIL for a range that fails, else (length zero) OK or FAIL; every other finish reports by ACC. -/
def Obligations.ResultsThatCanBeReported : Prop :=
  ∀ (i : Instr) (s t : State), s.busy = true → exec i s = .next t →
    (s.acc = true → t.acc = false →
      s.ackAt 0 = false ∧ (countedClass i s.seq = some .nackCmd ∨ countedClass i s.seq = some .nackData) ∧
        failureAt i s = if decidesResult i s then countedClass i s.seq else none) ∧
    (t.busy = false →
      (t.res = .unverified ↔ i = .reset) ∧
      (i = .reset → failureAt i s = some .unattributable) ∧
      (i = .handshake → t.res = .fail → failureAt i s = some .hsExhausted ∧ t.hs = .failed) ∧
      (i = .handshake → t.res = .ok → t.hs = .acknowledged) ∧
      (isBlock i = true → s.seq = .bchk → failureAt i s = some .range → t.res = .fail) ∧
      (isBlock i = true → s.seq = .bchk → failureAt i s = none → s.len = 0 ∧ (t.res = .ok ∨ t.res = .fail)) ∧
      (i ≠ .handshake → i ≠ .reset → s.seq ≠ .bchk → t.res = okIf s.acc) ∧
      t.res ≠ .none)

/-- R108, R69, R70, R194: which operations make which calls, on the constants of this hardware: a read-request to 0x7C is
RESET's, one to 0x7E is HANDSHAKE's last transaction, a read on 0x7F and a buffer store and a yield are the reading
operations', a write transaction to 0x7C is HANDSHAKE's, a buffer load is a block write's. -/
def Obligations.CallsBelongToTheirOperations : Prop :=
  ∀ (i : Instr) (s t : State) (e : Event), s.cfg = Config.default → exec i s = .next t → t.trace = s.trace ++ [e] →
    (∀ a, e = .start 0x7C .read a → i = .reset) ∧
    (∀ a, e = .start 0x7E .read a → i = .handshake ∧ s.seq = .h7) ∧
    (∀ a, e = .start 0x7F .read a → i ∈ readOps) ∧
    (∀ a, e = .start 0x7C .write a → i = .handshake) ∧
    (e = .yield → i = .rdfblk ∨ i = .rdcblk) ∧
    (∀ k v, e = .bufWrite k v → (i = .rdfblk ∨ i = .rdcblk) ∧ k = s.idx ∧ v = s.data) ∧
    (∀ k v, e = .bufRead k v → (i = .wrfblk ∨ i = .wrcblk) ∧ k = s.idx)

/-- R111, R159: RDTYPE is RDCFG of the chip-type offset: same trace, same end, but for the opcode. -/
def Obligations.RdtypeIsRdcfgOfTheOffset : Prop :=
  ∀ s : State, s.busy = false → s.addr.extractLsb' 0 8 = s.cfg.chiptypeOffset →
    ∃ t, runOp .rdcfg 8 s = .next t ∧ runOp .rdtype 8 s = .next { t with opc := encode .rdtype }
end

