-- ==== Sys2Proof/Laws/State.lean ====
section
/-! SUPPORT. One lemma per field per update of the state: what each shared operation does to each field.
The composite operations unfold to these. -/

namespace Sys2Proof.Machine

variable (s : State)

/-! ## startCall -/

@[simp] theorem State.startCall_cfg (a : BusAddr) (d : Dir) : (s.startCall a d).cfg = s.cfg := rfl
@[simp] theorem State.startCall_opc (a : BusAddr) (d : Dir) : (s.startCall a d).opc = s.opc := rfl
@[simp] theorem State.startCall_addr (a : BusAddr) (d : Dir) : (s.startCall a d).addr = s.addr := rfl
@[simp] theorem State.startCall_len (a : BusAddr) (d : Dir) : (s.startCall a d).len = s.len := rfl
@[simp] theorem State.startCall_data (a : BusAddr) (d : Dir) : (s.startCall a d).data = s.data := rfl
@[simp] theorem State.startCall_busy (a : BusAddr) (d : Dir) : (s.startCall a d).busy = s.busy := rfl
@[simp] theorem State.startCall_res (a : BusAddr) (d : Dir) : (s.startCall a d).res = s.res := rfl
@[simp] theorem State.startCall_hs (a : BusAddr) (d : Dir) : (s.startCall a d).hs = s.hs := rfl
@[simp] theorem State.startCall_seq (a : BusAddr) (d : Dir) : (s.startCall a d).seq = s.seq := rfl
@[simp] theorem State.startCall_acc (a : BusAddr) (d : Dir) : (s.startCall a d).acc = s.acc := rfl
@[simp] theorem State.startCall_att (a : BusAddr) (d : Dir) : (s.startCall a d).att = s.att := rfl
@[simp] theorem State.startCall_pass (a : BusAddr) (d : Dir) : (s.startCall a d).pass = s.pass := rfl
@[simp] theorem State.startCall_idx (a : BusAddr) (d : Dir) : (s.startCall a d).idx = s.idx := rfl
@[simp] theorem State.startCall_buf (a : BusAddr) (d : Dir) : (s.startCall a d).buf = s.buf := rfl
@[simp] theorem State.startCall_stalled (a : BusAddr) (d : Dir) : (s.startCall a d).stalled = s.stalled := rfl
@[simp] theorem State.startCall_script (a : BusAddr) (d : Dir) : (s.startCall a d).script = s.script := rfl
@[simp] theorem State.startCall_acks (a : BusAddr) (d : Dir) : (s.startCall a d).acks = s.acks.tail := rfl
@[simp] theorem State.startCall_reads (a : BusAddr) (d : Dir) : (s.startCall a d).reads = s.reads := rfl
@[simp] theorem State.startCall_ackDraws (a : BusAddr) (d : Dir) : (s.startCall a d).ackDraws = s.ackDraws + 1 := rfl
@[simp] theorem State.startCall_byteDraws (a : BusAddr) (d : Dir) : (s.startCall a d).byteDraws = s.byteDraws := rfl
@[simp] theorem State.startCall_draws (a : BusAddr) (d : Dir) : (s.startCall a d).draws = s.draws := rfl
@[simp] theorem State.startCall_trace (a : BusAddr) (d : Dir) : (s.startCall a d).trace = s.trace ++ [.start a d (s.ackAt 0)] := rfl
@[simp] theorem State.startCall_seen (a : BusAddr) (d : Dir) : (s.startCall a d).seen = s.seen := rfl

/-! ## writeCall -/

@[simp] theorem State.writeCall_cfg (v : Byte) : (s.writeCall v).cfg = s.cfg := rfl
@[simp] theorem State.writeCall_opc (v : Byte) : (s.writeCall v).opc = s.opc := rfl
@[simp] theorem State.writeCall_addr (v : Byte) : (s.writeCall v).addr = s.addr := rfl
@[simp] theorem State.writeCall_len (v : Byte) : (s.writeCall v).len = s.len := rfl
@[simp] theorem State.writeCall_data (v : Byte) : (s.writeCall v).data = s.data := rfl
@[simp] theorem State.writeCall_busy (v : Byte) : (s.writeCall v).busy = s.busy := rfl
@[simp] theorem State.writeCall_res (v : Byte) : (s.writeCall v).res = s.res := rfl
@[simp] theorem State.writeCall_hs (v : Byte) : (s.writeCall v).hs = s.hs := rfl
@[simp] theorem State.writeCall_seq (v : Byte) : (s.writeCall v).seq = s.seq := rfl
@[simp] theorem State.writeCall_acc (v : Byte) : (s.writeCall v).acc = s.acc := rfl
@[simp] theorem State.writeCall_att (v : Byte) : (s.writeCall v).att = s.att := rfl
@[simp] theorem State.writeCall_pass (v : Byte) : (s.writeCall v).pass = s.pass := rfl
@[simp] theorem State.writeCall_idx (v : Byte) : (s.writeCall v).idx = s.idx := rfl
@[simp] theorem State.writeCall_buf (v : Byte) : (s.writeCall v).buf = s.buf := rfl
@[simp] theorem State.writeCall_stalled (v : Byte) : (s.writeCall v).stalled = s.stalled := rfl
@[simp] theorem State.writeCall_script (v : Byte) : (s.writeCall v).script = s.script := rfl
@[simp] theorem State.writeCall_acks (v : Byte) : (s.writeCall v).acks = s.acks.tail := rfl
@[simp] theorem State.writeCall_reads (v : Byte) : (s.writeCall v).reads = s.reads := rfl
@[simp] theorem State.writeCall_ackDraws (v : Byte) : (s.writeCall v).ackDraws = s.ackDraws + 1 := rfl
@[simp] theorem State.writeCall_byteDraws (v : Byte) : (s.writeCall v).byteDraws = s.byteDraws := rfl
@[simp] theorem State.writeCall_draws (v : Byte) : (s.writeCall v).draws = s.draws := rfl
@[simp] theorem State.writeCall_trace (v : Byte) : (s.writeCall v).trace = s.trace ++ [.write v (s.ackAt 0)] := rfl
@[simp] theorem State.writeCall_seen (v : Byte) : (s.writeCall v).seen = s.seen := rfl

/-! ## readCall -/

@[simp] theorem State.readCall_cfg : s.readCall.cfg = s.cfg := rfl
@[simp] theorem State.readCall_opc : s.readCall.opc = s.opc := rfl
@[simp] theorem State.readCall_addr : s.readCall.addr = s.addr := rfl
@[simp] theorem State.readCall_len : s.readCall.len = s.len := rfl
@[simp] theorem State.readCall_data : s.readCall.data = s.data := rfl
@[simp] theorem State.readCall_busy : s.readCall.busy = s.busy := rfl
@[simp] theorem State.readCall_res : s.readCall.res = s.res := rfl
@[simp] theorem State.readCall_hs : s.readCall.hs = s.hs := rfl
@[simp] theorem State.readCall_seq : s.readCall.seq = s.seq := rfl
@[simp] theorem State.readCall_acc : s.readCall.acc = s.acc := rfl
@[simp] theorem State.readCall_att : s.readCall.att = s.att := rfl
@[simp] theorem State.readCall_pass : s.readCall.pass = s.pass := rfl
@[simp] theorem State.readCall_idx : s.readCall.idx = s.idx := rfl
@[simp] theorem State.readCall_buf : s.readCall.buf = s.buf := rfl
@[simp] theorem State.readCall_stalled : s.readCall.stalled = s.stalled := rfl
@[simp] theorem State.readCall_script : s.readCall.script = s.script := rfl
@[simp] theorem State.readCall_acks : s.readCall.acks = s.acks := rfl
@[simp] theorem State.readCall_reads : s.readCall.reads = s.reads.tail := rfl
@[simp] theorem State.readCall_ackDraws : s.readCall.ackDraws = s.ackDraws := rfl
@[simp] theorem State.readCall_byteDraws : s.readCall.byteDraws = s.byteDraws + 1 := rfl
@[simp] theorem State.readCall_draws : s.readCall.draws = s.draws := rfl
@[simp] theorem State.readCall_trace : s.readCall.trace = s.trace ++ [.read false (s.byteAt 0)] := rfl
@[simp] theorem State.readCall_seen : s.readCall.seen = s.seen := rfl

/-! ## stopCall -/

@[simp] theorem State.stopCall_cfg : s.stopCall.cfg = s.cfg := rfl
@[simp] theorem State.stopCall_opc : s.stopCall.opc = s.opc := rfl
@[simp] theorem State.stopCall_addr : s.stopCall.addr = s.addr := rfl
@[simp] theorem State.stopCall_len : s.stopCall.len = s.len := rfl
@[simp] theorem State.stopCall_data : s.stopCall.data = s.data := rfl
@[simp] theorem State.stopCall_busy : s.stopCall.busy = s.busy := rfl
@[simp] theorem State.stopCall_res : s.stopCall.res = s.res := rfl
@[simp] theorem State.stopCall_hs : s.stopCall.hs = s.hs := rfl
@[simp] theorem State.stopCall_seq : s.stopCall.seq = s.seq := rfl
@[simp] theorem State.stopCall_acc : s.stopCall.acc = s.acc := rfl
@[simp] theorem State.stopCall_att : s.stopCall.att = s.att := rfl
@[simp] theorem State.stopCall_pass : s.stopCall.pass = s.pass := rfl
@[simp] theorem State.stopCall_idx : s.stopCall.idx = s.idx := rfl
@[simp] theorem State.stopCall_buf : s.stopCall.buf = s.buf := rfl
@[simp] theorem State.stopCall_stalled : s.stopCall.stalled = s.stalled := rfl
@[simp] theorem State.stopCall_script : s.stopCall.script = s.script := rfl
@[simp] theorem State.stopCall_acks : s.stopCall.acks = s.acks := rfl
@[simp] theorem State.stopCall_reads : s.stopCall.reads = s.reads := rfl
@[simp] theorem State.stopCall_ackDraws : s.stopCall.ackDraws = s.ackDraws := rfl
@[simp] theorem State.stopCall_byteDraws : s.stopCall.byteDraws = s.byteDraws := rfl
@[simp] theorem State.stopCall_draws : s.stopCall.draws = s.draws := rfl
@[simp] theorem State.stopCall_trace : s.stopCall.trace = s.trace ++ [.stop] := rfl
@[simp] theorem State.stopCall_seen : s.stopCall.seen = s.seen := rfl

/-! ## yieldCall -/

@[simp] theorem State.yieldCall_cfg : s.yieldCall.cfg = s.cfg := rfl
@[simp] theorem State.yieldCall_opc : s.yieldCall.opc = s.opc := rfl
@[simp] theorem State.yieldCall_addr : s.yieldCall.addr = s.addr := rfl
@[simp] theorem State.yieldCall_len : s.yieldCall.len = s.len := rfl
@[simp] theorem State.yieldCall_data : s.yieldCall.data = s.data := rfl
@[simp] theorem State.yieldCall_busy : s.yieldCall.busy = s.busy := rfl
@[simp] theorem State.yieldCall_res : s.yieldCall.res = s.res := rfl
@[simp] theorem State.yieldCall_hs : s.yieldCall.hs = s.hs := rfl
@[simp] theorem State.yieldCall_seq : s.yieldCall.seq = s.seq := rfl
@[simp] theorem State.yieldCall_acc : s.yieldCall.acc = s.acc := rfl
@[simp] theorem State.yieldCall_att : s.yieldCall.att = s.att := rfl
@[simp] theorem State.yieldCall_pass : s.yieldCall.pass = s.pass := rfl
@[simp] theorem State.yieldCall_idx : s.yieldCall.idx = s.idx := rfl
@[simp] theorem State.yieldCall_buf : s.yieldCall.buf = s.buf := rfl
@[simp] theorem State.yieldCall_stalled : s.yieldCall.stalled = s.stalled := rfl
@[simp] theorem State.yieldCall_script : s.yieldCall.script = s.script := rfl
@[simp] theorem State.yieldCall_acks : s.yieldCall.acks = s.acks := rfl
@[simp] theorem State.yieldCall_reads : s.yieldCall.reads = s.reads := rfl
@[simp] theorem State.yieldCall_ackDraws : s.yieldCall.ackDraws = s.ackDraws := rfl
@[simp] theorem State.yieldCall_byteDraws : s.yieldCall.byteDraws = s.byteDraws := rfl
@[simp] theorem State.yieldCall_draws : s.yieldCall.draws = s.draws := rfl
@[simp] theorem State.yieldCall_trace : s.yieldCall.trace = s.trace ++ [.yield] := rfl
@[simp] theorem State.yieldCall_seen : s.yieldCall.seen = s.seen := rfl

/-! ## loadCall -/

@[simp] theorem State.loadCall_cfg : s.loadCall.cfg = s.cfg := rfl
@[simp] theorem State.loadCall_opc : s.loadCall.opc = s.opc := rfl
@[simp] theorem State.loadCall_addr : s.loadCall.addr = s.addr := rfl
@[simp] theorem State.loadCall_len : s.loadCall.len = s.len := rfl
@[simp] theorem State.loadCall_data : s.loadCall.data = s.data := rfl
@[simp] theorem State.loadCall_busy : s.loadCall.busy = s.busy := rfl
@[simp] theorem State.loadCall_res : s.loadCall.res = s.res := rfl
@[simp] theorem State.loadCall_hs : s.loadCall.hs = s.hs := rfl
@[simp] theorem State.loadCall_seq : s.loadCall.seq = s.seq := rfl
@[simp] theorem State.loadCall_acc : s.loadCall.acc = s.acc := rfl
@[simp] theorem State.loadCall_att : s.loadCall.att = s.att := rfl
@[simp] theorem State.loadCall_pass : s.loadCall.pass = s.pass := rfl
@[simp] theorem State.loadCall_idx : s.loadCall.idx = s.idx := rfl
@[simp] theorem State.loadCall_buf : s.loadCall.buf = s.buf := rfl
@[simp] theorem State.loadCall_stalled : s.loadCall.stalled = s.stalled := rfl
@[simp] theorem State.loadCall_script : s.loadCall.script = s.script := rfl
@[simp] theorem State.loadCall_acks : s.loadCall.acks = s.acks := rfl
@[simp] theorem State.loadCall_reads : s.loadCall.reads = s.reads := rfl
@[simp] theorem State.loadCall_ackDraws : s.loadCall.ackDraws = s.ackDraws := rfl
@[simp] theorem State.loadCall_byteDraws : s.loadCall.byteDraws = s.byteDraws := rfl
@[simp] theorem State.loadCall_draws : s.loadCall.draws = s.draws + 1 := rfl
@[simp] theorem State.loadCall_trace : s.loadCall.trace = s.trace ++ [.bufRead s.idx s.loadedByte] := rfl
@[simp] theorem State.loadCall_seen : s.loadCall.seen = s.seen := rfl

/-! ## storeCall -/

@[simp] theorem State.storeCall_cfg : s.storeCall.cfg = s.cfg := rfl
@[simp] theorem State.storeCall_opc : s.storeCall.opc = s.opc := rfl
@[simp] theorem State.storeCall_addr : s.storeCall.addr = s.addr := rfl
@[simp] theorem State.storeCall_len : s.storeCall.len = s.len := rfl
@[simp] theorem State.storeCall_data : s.storeCall.data = s.data := rfl
@[simp] theorem State.storeCall_busy : s.storeCall.busy = s.busy := rfl
@[simp] theorem State.storeCall_res : s.storeCall.res = s.res := rfl
@[simp] theorem State.storeCall_hs : s.storeCall.hs = s.hs := rfl
@[simp] theorem State.storeCall_seq : s.storeCall.seq = s.seq := rfl
@[simp] theorem State.storeCall_acc : s.storeCall.acc = s.acc := rfl
@[simp] theorem State.storeCall_att : s.storeCall.att = s.att := rfl
@[simp] theorem State.storeCall_pass : s.storeCall.pass = s.pass := rfl
@[simp] theorem State.storeCall_idx : s.storeCall.idx = s.idx := rfl
@[simp] theorem State.storeCall_buf : s.storeCall.buf = s.buf.write s.idx.toNat s.data := rfl
@[simp] theorem State.storeCall_stalled : s.storeCall.stalled = s.stalled := rfl
@[simp] theorem State.storeCall_script : s.storeCall.script = s.script := rfl
@[simp] theorem State.storeCall_acks : s.storeCall.acks = s.acks := rfl
@[simp] theorem State.storeCall_reads : s.storeCall.reads = s.reads := rfl
@[simp] theorem State.storeCall_ackDraws : s.storeCall.ackDraws = s.ackDraws := rfl
@[simp] theorem State.storeCall_byteDraws : s.storeCall.byteDraws = s.byteDraws := rfl
@[simp] theorem State.storeCall_draws : s.storeCall.draws = s.draws := rfl
@[simp] theorem State.storeCall_trace : s.storeCall.trace = s.trace ++ [.bufWrite s.idx s.data] := rfl
@[simp] theorem State.storeCall_seen : s.storeCall.seen = s.seen := rfl

/-! ## goto -/

@[simp] theorem State.goto_cfg (l : Label) : (s.goto l).cfg = s.cfg := rfl
@[simp] theorem State.goto_opc (l : Label) : (s.goto l).opc = s.opc := rfl
@[simp] theorem State.goto_addr (l : Label) : (s.goto l).addr = s.addr := rfl
@[simp] theorem State.goto_len (l : Label) : (s.goto l).len = s.len := rfl
@[simp] theorem State.goto_data (l : Label) : (s.goto l).data = s.data := rfl
@[simp] theorem State.goto_busy (l : Label) : (s.goto l).busy = s.busy := rfl
@[simp] theorem State.goto_res (l : Label) : (s.goto l).res = s.res := rfl
@[simp] theorem State.goto_hs (l : Label) : (s.goto l).hs = s.hs := rfl
@[simp] theorem State.goto_seq (l : Label) : (s.goto l).seq = l := rfl
@[simp] theorem State.goto_acc (l : Label) : (s.goto l).acc = s.acc := rfl
@[simp] theorem State.goto_att (l : Label) : (s.goto l).att = s.att := rfl
@[simp] theorem State.goto_pass (l : Label) : (s.goto l).pass = s.pass := rfl
@[simp] theorem State.goto_idx (l : Label) : (s.goto l).idx = s.idx := rfl
@[simp] theorem State.goto_buf (l : Label) : (s.goto l).buf = s.buf := rfl
@[simp] theorem State.goto_stalled (l : Label) : (s.goto l).stalled = s.stalled := rfl
@[simp] theorem State.goto_script (l : Label) : (s.goto l).script = s.script := rfl
@[simp] theorem State.goto_acks (l : Label) : (s.goto l).acks = s.acks := rfl
@[simp] theorem State.goto_reads (l : Label) : (s.goto l).reads = s.reads := rfl
@[simp] theorem State.goto_ackDraws (l : Label) : (s.goto l).ackDraws = s.ackDraws := rfl
@[simp] theorem State.goto_byteDraws (l : Label) : (s.goto l).byteDraws = s.byteDraws := rfl
@[simp] theorem State.goto_draws (l : Label) : (s.goto l).draws = s.draws := rfl
@[simp] theorem State.goto_trace (l : Label) : (s.goto l).trace = s.trace := rfl
@[simp] theorem State.goto_seen (l : Label) : (s.goto l).seen = s.seen := rfl

/-! ## withHs -/

@[simp] theorem State.withHs_cfg (h : HsState) : (s.withHs h).cfg = s.cfg := rfl
@[simp] theorem State.withHs_opc (h : HsState) : (s.withHs h).opc = s.opc := rfl
@[simp] theorem State.withHs_addr (h : HsState) : (s.withHs h).addr = s.addr := rfl
@[simp] theorem State.withHs_len (h : HsState) : (s.withHs h).len = s.len := rfl
@[simp] theorem State.withHs_data (h : HsState) : (s.withHs h).data = s.data := rfl
@[simp] theorem State.withHs_busy (h : HsState) : (s.withHs h).busy = s.busy := rfl
@[simp] theorem State.withHs_res (h : HsState) : (s.withHs h).res = s.res := rfl
@[simp] theorem State.withHs_hs (h : HsState) : (s.withHs h).hs = h := rfl
@[simp] theorem State.withHs_seq (h : HsState) : (s.withHs h).seq = s.seq := rfl
@[simp] theorem State.withHs_acc (h : HsState) : (s.withHs h).acc = s.acc := rfl
@[simp] theorem State.withHs_att (h : HsState) : (s.withHs h).att = s.att := rfl
@[simp] theorem State.withHs_pass (h : HsState) : (s.withHs h).pass = s.pass := rfl
@[simp] theorem State.withHs_idx (h : HsState) : (s.withHs h).idx = s.idx := rfl
@[simp] theorem State.withHs_buf (h : HsState) : (s.withHs h).buf = s.buf := rfl
@[simp] theorem State.withHs_stalled (h : HsState) : (s.withHs h).stalled = s.stalled := rfl
@[simp] theorem State.withHs_script (h : HsState) : (s.withHs h).script = s.script := rfl
@[simp] theorem State.withHs_acks (h : HsState) : (s.withHs h).acks = s.acks := rfl
@[simp] theorem State.withHs_reads (h : HsState) : (s.withHs h).reads = s.reads := rfl
@[simp] theorem State.withHs_ackDraws (h : HsState) : (s.withHs h).ackDraws = s.ackDraws := rfl
@[simp] theorem State.withHs_byteDraws (h : HsState) : (s.withHs h).byteDraws = s.byteDraws := rfl
@[simp] theorem State.withHs_draws (h : HsState) : (s.withHs h).draws = s.draws := rfl
@[simp] theorem State.withHs_trace (h : HsState) : (s.withHs h).trace = s.trace := rfl
@[simp] theorem State.withHs_seen (h : HsState) : (s.withHs h).seen = s.seen := rfl

/-! ## countAttempt -/

@[simp] theorem State.countAttempt_cfg : s.countAttempt.cfg = s.cfg := rfl
@[simp] theorem State.countAttempt_opc : s.countAttempt.opc = s.opc := rfl
@[simp] theorem State.countAttempt_addr : s.countAttempt.addr = s.addr := rfl
@[simp] theorem State.countAttempt_len : s.countAttempt.len = s.len := rfl
@[simp] theorem State.countAttempt_data : s.countAttempt.data = s.data := rfl
@[simp] theorem State.countAttempt_busy : s.countAttempt.busy = s.busy := rfl
@[simp] theorem State.countAttempt_res : s.countAttempt.res = s.res := rfl
@[simp] theorem State.countAttempt_hs : s.countAttempt.hs = s.hs := rfl
@[simp] theorem State.countAttempt_seq : s.countAttempt.seq = s.seq := rfl
@[simp] theorem State.countAttempt_acc : s.countAttempt.acc = s.acc := rfl
@[simp] theorem State.countAttempt_att : s.countAttempt.att = s.att + 1 := rfl
@[simp] theorem State.countAttempt_pass : s.countAttempt.pass = s.pass := rfl
@[simp] theorem State.countAttempt_idx : s.countAttempt.idx = s.idx := rfl
@[simp] theorem State.countAttempt_buf : s.countAttempt.buf = s.buf := rfl
@[simp] theorem State.countAttempt_stalled : s.countAttempt.stalled = s.stalled := rfl
@[simp] theorem State.countAttempt_script : s.countAttempt.script = s.script := rfl
@[simp] theorem State.countAttempt_acks : s.countAttempt.acks = s.acks := rfl
@[simp] theorem State.countAttempt_reads : s.countAttempt.reads = s.reads := rfl
@[simp] theorem State.countAttempt_ackDraws : s.countAttempt.ackDraws = s.ackDraws := rfl
@[simp] theorem State.countAttempt_byteDraws : s.countAttempt.byteDraws = s.byteDraws := rfl
@[simp] theorem State.countAttempt_draws : s.countAttempt.draws = s.draws := rfl
@[simp] theorem State.countAttempt_trace : s.countAttempt.trace = s.trace := rfl
@[simp] theorem State.countAttempt_seen : s.countAttempt.seen = s.seen := rfl

/-! ## withData -/

@[simp] theorem State.withData_cfg (v : Byte) : (s.withData v).cfg = s.cfg := rfl
@[simp] theorem State.withData_opc (v : Byte) : (s.withData v).opc = s.opc := rfl
@[simp] theorem State.withData_addr (v : Byte) : (s.withData v).addr = s.addr := rfl
@[simp] theorem State.withData_len (v : Byte) : (s.withData v).len = s.len := rfl
@[simp] theorem State.withData_data (v : Byte) : (s.withData v).data = v := rfl
@[simp] theorem State.withData_busy (v : Byte) : (s.withData v).busy = s.busy := rfl
@[simp] theorem State.withData_res (v : Byte) : (s.withData v).res = s.res := rfl
@[simp] theorem State.withData_hs (v : Byte) : (s.withData v).hs = s.hs := rfl
@[simp] theorem State.withData_seq (v : Byte) : (s.withData v).seq = s.seq := rfl
@[simp] theorem State.withData_acc (v : Byte) : (s.withData v).acc = s.acc := rfl
@[simp] theorem State.withData_att (v : Byte) : (s.withData v).att = s.att := rfl
@[simp] theorem State.withData_pass (v : Byte) : (s.withData v).pass = s.pass := rfl
@[simp] theorem State.withData_idx (v : Byte) : (s.withData v).idx = s.idx := rfl
@[simp] theorem State.withData_buf (v : Byte) : (s.withData v).buf = s.buf := rfl
@[simp] theorem State.withData_stalled (v : Byte) : (s.withData v).stalled = s.stalled := rfl
@[simp] theorem State.withData_script (v : Byte) : (s.withData v).script = s.script := rfl
@[simp] theorem State.withData_acks (v : Byte) : (s.withData v).acks = s.acks := rfl
@[simp] theorem State.withData_reads (v : Byte) : (s.withData v).reads = s.reads := rfl
@[simp] theorem State.withData_ackDraws (v : Byte) : (s.withData v).ackDraws = s.ackDraws := rfl
@[simp] theorem State.withData_byteDraws (v : Byte) : (s.withData v).byteDraws = s.byteDraws := rfl
@[simp] theorem State.withData_draws (v : Byte) : (s.withData v).draws = s.draws := rfl
@[simp] theorem State.withData_trace (v : Byte) : (s.withData v).trace = s.trace := rfl
@[simp] theorem State.withData_seen (v : Byte) : (s.withData v).seen = s.seen := rfl

/-! ## secondPass -/

@[simp] theorem State.secondPass_cfg : s.secondPass.cfg = s.cfg := rfl
@[simp] theorem State.secondPass_opc : s.secondPass.opc = s.opc := rfl
@[simp] theorem State.secondPass_addr : s.secondPass.addr = s.addr := rfl
@[simp] theorem State.secondPass_len : s.secondPass.len = s.len := rfl
@[simp] theorem State.secondPass_data : s.secondPass.data = s.data := rfl
@[simp] theorem State.secondPass_busy : s.secondPass.busy = s.busy := rfl
@[simp] theorem State.secondPass_res : s.secondPass.res = s.res := rfl
@[simp] theorem State.secondPass_hs : s.secondPass.hs = s.hs := rfl
@[simp] theorem State.secondPass_seq : s.secondPass.seq = .c0 := rfl
@[simp] theorem State.secondPass_acc : s.secondPass.acc = s.acc := rfl
@[simp] theorem State.secondPass_att : s.secondPass.att = s.att := rfl
@[simp] theorem State.secondPass_pass : s.secondPass.pass = true := rfl
@[simp] theorem State.secondPass_idx : s.secondPass.idx = s.idx := rfl
@[simp] theorem State.secondPass_buf : s.secondPass.buf = s.buf := rfl
@[simp] theorem State.secondPass_stalled : s.secondPass.stalled = s.stalled := rfl
@[simp] theorem State.secondPass_script : s.secondPass.script = s.script := rfl
@[simp] theorem State.secondPass_acks : s.secondPass.acks = s.acks := rfl
@[simp] theorem State.secondPass_reads : s.secondPass.reads = s.reads := rfl
@[simp] theorem State.secondPass_ackDraws : s.secondPass.ackDraws = s.ackDraws := rfl
@[simp] theorem State.secondPass_byteDraws : s.secondPass.byteDraws = s.byteDraws := rfl
@[simp] theorem State.secondPass_draws : s.secondPass.draws = s.draws := rfl
@[simp] theorem State.secondPass_trace : s.secondPass.trace = s.trace := rfl
@[simp] theorem State.secondPass_seen : s.secondPass.seen = s.seen := rfl

/-! ## countByte -/

@[simp] theorem State.countByte_cfg : s.countByte.cfg = s.cfg := rfl
@[simp] theorem State.countByte_opc : s.countByte.opc = s.opc := rfl
@[simp] theorem State.countByte_addr : s.countByte.addr = s.addr := rfl
@[simp] theorem State.countByte_len : s.countByte.len = s.len := rfl
@[simp] theorem State.countByte_data : s.countByte.data = s.data := rfl
@[simp] theorem State.countByte_busy : s.countByte.busy = s.busy := rfl
@[simp] theorem State.countByte_res : s.countByte.res = s.res := rfl
@[simp] theorem State.countByte_hs : s.countByte.hs = s.hs := rfl
@[simp] theorem State.countByte_seq : s.countByte.seq = s.seq := rfl
@[simp] theorem State.countByte_acc : s.countByte.acc = s.acc := rfl
@[simp] theorem State.countByte_att : s.countByte.att = s.att := rfl
@[simp] theorem State.countByte_pass : s.countByte.pass = s.pass := rfl
@[simp] theorem State.countByte_idx : s.countByte.idx = s.idx + 1 := rfl
@[simp] theorem State.countByte_buf : s.countByte.buf = s.buf := rfl
@[simp] theorem State.countByte_stalled : s.countByte.stalled = s.stalled := rfl
@[simp] theorem State.countByte_script : s.countByte.script = s.script := rfl
@[simp] theorem State.countByte_acks : s.countByte.acks = s.acks := rfl
@[simp] theorem State.countByte_reads : s.countByte.reads = s.reads := rfl
@[simp] theorem State.countByte_ackDraws : s.countByte.ackDraws = s.ackDraws := rfl
@[simp] theorem State.countByte_byteDraws : s.countByte.byteDraws = s.byteDraws := rfl
@[simp] theorem State.countByte_draws : s.countByte.draws = s.draws := rfl
@[simp] theorem State.countByte_trace : s.countByte.trace = s.trace := rfl
@[simp] theorem State.countByte_seen : s.countByte.seen = s.seen := rfl

/-! ## startByte -/

@[simp] theorem State.startByte_cfg (l : Label) : (s.startByte l).cfg = s.cfg := rfl
@[simp] theorem State.startByte_opc (l : Label) : (s.startByte l).opc = s.opc := rfl
@[simp] theorem State.startByte_addr (l : Label) : (s.startByte l).addr = s.addr := rfl
@[simp] theorem State.startByte_len (l : Label) : (s.startByte l).len = s.len := rfl
@[simp] theorem State.startByte_data (l : Label) : (s.startByte l).data = s.data := rfl
@[simp] theorem State.startByte_busy (l : Label) : (s.startByte l).busy = s.busy := rfl
@[simp] theorem State.startByte_res (l : Label) : (s.startByte l).res = s.res := rfl
@[simp] theorem State.startByte_hs (l : Label) : (s.startByte l).hs = s.hs := rfl
@[simp] theorem State.startByte_seq (l : Label) : (s.startByte l).seq = l := rfl
@[simp] theorem State.startByte_acc (l : Label) : (s.startByte l).acc = (if s.cfg.blockLatch then s.acc else true) := rfl
@[simp] theorem State.startByte_att (l : Label) : (s.startByte l).att = s.att := rfl
@[simp] theorem State.startByte_pass (l : Label) : (s.startByte l).pass = false := rfl
@[simp] theorem State.startByte_idx (l : Label) : (s.startByte l).idx = s.idx := rfl
@[simp] theorem State.startByte_buf (l : Label) : (s.startByte l).buf = s.buf := rfl
@[simp] theorem State.startByte_stalled (l : Label) : (s.startByte l).stalled = s.stalled := rfl
@[simp] theorem State.startByte_script (l : Label) : (s.startByte l).script = s.script := rfl
@[simp] theorem State.startByte_acks (l : Label) : (s.startByte l).acks = s.acks := rfl
@[simp] theorem State.startByte_reads (l : Label) : (s.startByte l).reads = s.reads := rfl
@[simp] theorem State.startByte_ackDraws (l : Label) : (s.startByte l).ackDraws = s.ackDraws := rfl
@[simp] theorem State.startByte_byteDraws (l : Label) : (s.startByte l).byteDraws = s.byteDraws := rfl
@[simp] theorem State.startByte_draws (l : Label) : (s.startByte l).draws = s.draws := rfl
@[simp] theorem State.startByte_trace (l : Label) : (s.startByte l).trace = s.trace := rfl
@[simp] theorem State.startByte_seen (l : Label) : (s.startByte l).seen = s.seen := rfl

/-! ## drawn -/

@[simp] theorem State.drawn_cfg : s.drawn.cfg = s.cfg := rfl
@[simp] theorem State.drawn_opc : s.drawn.opc = s.opc := rfl
@[simp] theorem State.drawn_addr : s.drawn.addr = s.addr := rfl
@[simp] theorem State.drawn_len : s.drawn.len = s.len := rfl
@[simp] theorem State.drawn_data : s.drawn.data = s.data := rfl
@[simp] theorem State.drawn_busy : s.drawn.busy = s.busy := rfl
@[simp] theorem State.drawn_res : s.drawn.res = s.res := rfl
@[simp] theorem State.drawn_hs : s.drawn.hs = s.hs := rfl
@[simp] theorem State.drawn_seq : s.drawn.seq = s.seq := rfl
@[simp] theorem State.drawn_acc : s.drawn.acc = s.acc := rfl
@[simp] theorem State.drawn_att : s.drawn.att = s.att := rfl
@[simp] theorem State.drawn_pass : s.drawn.pass = s.pass := rfl
@[simp] theorem State.drawn_idx : s.drawn.idx = s.idx := rfl
@[simp] theorem State.drawn_buf : s.drawn.buf = s.buf := rfl
@[simp] theorem State.drawn_stalled : s.drawn.stalled = s.stalled := rfl
@[simp] theorem State.drawn_script : s.drawn.script = s.script := rfl
@[simp] theorem State.drawn_acks : s.drawn.acks = s.acks := rfl
@[simp] theorem State.drawn_reads : s.drawn.reads = s.reads := rfl
@[simp] theorem State.drawn_ackDraws : s.drawn.ackDraws = s.ackDraws := rfl
@[simp] theorem State.drawn_byteDraws : s.drawn.byteDraws = s.byteDraws := rfl
@[simp] theorem State.drawn_draws : s.drawn.draws = s.draws + 1 := rfl
@[simp] theorem State.drawn_trace : s.drawn.trace = s.trace := rfl
@[simp] theorem State.drawn_seen : s.drawn.seen = s.seen := rfl

/-! ## finish -/

@[simp] theorem State.finish_cfg (r : Result) : (s.finish r).cfg = s.cfg := rfl
@[simp] theorem State.finish_opc (r : Result) : (s.finish r).opc = s.opc := rfl
@[simp] theorem State.finish_addr (r : Result) : (s.finish r).addr = s.addr := rfl
@[simp] theorem State.finish_len (r : Result) : (s.finish r).len = s.len := rfl
@[simp] theorem State.finish_data (r : Result) : (s.finish r).data = s.data := rfl
@[simp] theorem State.finish_busy (r : Result) : (s.finish r).busy = false := rfl
@[simp] theorem State.finish_res (r : Result) : (s.finish r).res = r := rfl
@[simp] theorem State.finish_hs (r : Result) : (s.finish r).hs = s.hs := rfl
@[simp] theorem State.finish_seq (r : Result) : (s.finish r).seq = .idle := rfl
@[simp] theorem State.finish_acc (r : Result) : (s.finish r).acc = s.acc := rfl
@[simp] theorem State.finish_att (r : Result) : (s.finish r).att = s.att := rfl
@[simp] theorem State.finish_pass (r : Result) : (s.finish r).pass = s.pass := rfl
@[simp] theorem State.finish_idx (r : Result) : (s.finish r).idx = s.idx := rfl
@[simp] theorem State.finish_buf (r : Result) : (s.finish r).buf = s.buf := rfl
@[simp] theorem State.finish_stalled (r : Result) : (s.finish r).stalled = s.stalled := rfl
@[simp] theorem State.finish_script (r : Result) : (s.finish r).script = s.script := rfl
@[simp] theorem State.finish_acks (r : Result) : (s.finish r).acks = s.acks := rfl
@[simp] theorem State.finish_reads (r : Result) : (s.finish r).reads = s.reads := rfl
@[simp] theorem State.finish_ackDraws (r : Result) : (s.finish r).ackDraws = s.ackDraws := rfl
@[simp] theorem State.finish_byteDraws (r : Result) : (s.finish r).byteDraws = s.byteDraws := rfl
@[simp] theorem State.finish_draws (r : Result) : (s.finish r).draws = s.draws := rfl
@[simp] theorem State.finish_trace (r : Result) : (s.finish r).trace = s.trace := rfl
@[simp] theorem State.finish_seen (r : Result) : (s.finish r).seen = s.seen := rfl

/-! ## issue -/

@[simp] theorem State.issue_cfg (i : Instr) (l : Label) : (s.issue i l).cfg = s.cfg := rfl
@[simp] theorem State.issue_opc (i : Instr) (l : Label) : (s.issue i l).opc = encode i := rfl
@[simp] theorem State.issue_addr (i : Instr) (l : Label) : (s.issue i l).addr = s.addr := rfl
@[simp] theorem State.issue_len (i : Instr) (l : Label) : (s.issue i l).len = s.len := rfl
@[simp] theorem State.issue_data (i : Instr) (l : Label) : (s.issue i l).data = s.data := rfl
@[simp] theorem State.issue_busy (i : Instr) (l : Label) : (s.issue i l).busy = true := rfl
@[simp] theorem State.issue_res (i : Instr) (l : Label) : (s.issue i l).res = .none := rfl
@[simp] theorem State.issue_hs (i : Instr) (l : Label) : (s.issue i l).hs = s.hs := rfl
@[simp] theorem State.issue_seq (i : Instr) (l : Label) : (s.issue i l).seq = l := rfl
@[simp] theorem State.issue_acc (i : Instr) (l : Label) : (s.issue i l).acc = true := rfl
@[simp] theorem State.issue_att (i : Instr) (l : Label) : (s.issue i l).att = 0 := rfl
@[simp] theorem State.issue_pass (i : Instr) (l : Label) : (s.issue i l).pass = false := rfl
@[simp] theorem State.issue_idx (i : Instr) (l : Label) : (s.issue i l).idx = 0 := rfl
@[simp] theorem State.issue_buf (i : Instr) (l : Label) : (s.issue i l).buf = s.buf := rfl
@[simp] theorem State.issue_stalled (i : Instr) (l : Label) : (s.issue i l).stalled = s.stalled := rfl
@[simp] theorem State.issue_script (i : Instr) (l : Label) : (s.issue i l).script = s.script := rfl
@[simp] theorem State.issue_acks (i : Instr) (l : Label) : (s.issue i l).acks = s.acks := rfl
@[simp] theorem State.issue_reads (i : Instr) (l : Label) : (s.issue i l).reads = s.reads := rfl
@[simp] theorem State.issue_ackDraws (i : Instr) (l : Label) : (s.issue i l).ackDraws = s.ackDraws := rfl
@[simp] theorem State.issue_byteDraws (i : Instr) (l : Label) : (s.issue i l).byteDraws = s.byteDraws := rfl
@[simp] theorem State.issue_draws (i : Instr) (l : Label) : (s.issue i l).draws = s.draws := rfl
@[simp] theorem State.issue_trace (i : Instr) (l : Label) : (s.issue i l).trace = s.trace := rfl
@[simp] theorem State.issue_seen (i : Instr) (l : Label) : (s.issue i l).seen = s.seen := rfl

/-! ## counted -/

@[simp] theorem State.counted_cfg (a : Bool) : (s.counted a).cfg = s.cfg := rfl
@[simp] theorem State.counted_opc (a : Bool) : (s.counted a).opc = s.opc := rfl
@[simp] theorem State.counted_addr (a : Bool) : (s.counted a).addr = s.addr := rfl
@[simp] theorem State.counted_len (a : Bool) : (s.counted a).len = s.len := rfl
@[simp] theorem State.counted_data (a : Bool) : (s.counted a).data = s.data := rfl
@[simp] theorem State.counted_busy (a : Bool) : (s.counted a).busy = s.busy := rfl
@[simp] theorem State.counted_res (a : Bool) : (s.counted a).res = s.res := rfl
@[simp] theorem State.counted_hs (a : Bool) : (s.counted a).hs = s.hs := rfl
@[simp] theorem State.counted_seq (a : Bool) : (s.counted a).seq = s.seq := rfl
@[simp] theorem State.counted_acc (a : Bool) : (s.counted a).acc = (s.acc && a) := rfl
@[simp] theorem State.counted_att (a : Bool) : (s.counted a).att = s.att := rfl
@[simp] theorem State.counted_pass (a : Bool) : (s.counted a).pass = s.pass := rfl
@[simp] theorem State.counted_idx (a : Bool) : (s.counted a).idx = s.idx := rfl
@[simp] theorem State.counted_buf (a : Bool) : (s.counted a).buf = s.buf := rfl
@[simp] theorem State.counted_stalled (a : Bool) : (s.counted a).stalled = s.stalled := rfl
@[simp] theorem State.counted_script (a : Bool) : (s.counted a).script = s.script := rfl
@[simp] theorem State.counted_acks (a : Bool) : (s.counted a).acks = s.acks := rfl
@[simp] theorem State.counted_reads (a : Bool) : (s.counted a).reads = s.reads := rfl
@[simp] theorem State.counted_ackDraws (a : Bool) : (s.counted a).ackDraws = s.ackDraws := rfl
@[simp] theorem State.counted_byteDraws (a : Bool) : (s.counted a).byteDraws = s.byteDraws := rfl
@[simp] theorem State.counted_draws (a : Bool) : (s.counted a).draws = s.draws := rfl
@[simp] theorem State.counted_trace (a : Bool) : (s.counted a).trace = s.trace := rfl
@[simp] theorem State.counted_seen (a : Bool) : (s.counted a).seen = s.seen := rfl

/-! ## resetInput -/

@[simp] theorem State.resetInput_cfg : s.resetInput.cfg = s.cfg := rfl
@[simp] theorem State.resetInput_opc : s.resetInput.opc = 0x00 := rfl
@[simp] theorem State.resetInput_addr : s.resetInput.addr = Config.unwrittenAddr s.draws := rfl
@[simp] theorem State.resetInput_len : s.resetInput.len = Config.unwrittenLen s.draws := rfl
@[simp] theorem State.resetInput_data : s.resetInput.data = Config.unwrittenData s.draws := rfl
@[simp] theorem State.resetInput_busy : s.resetInput.busy = false := rfl
@[simp] theorem State.resetInput_res : s.resetInput.res = .none := rfl
@[simp] theorem State.resetInput_hs : s.resetInput.hs = .notStarted := rfl
@[simp] theorem State.resetInput_seq : s.resetInput.seq = .idle := rfl
@[simp] theorem State.resetInput_acc : s.resetInput.acc = true := rfl
@[simp] theorem State.resetInput_att : s.resetInput.att = 0 := rfl
@[simp] theorem State.resetInput_pass : s.resetInput.pass = false := rfl
@[simp] theorem State.resetInput_idx : s.resetInput.idx = 0 := rfl
@[simp] theorem State.resetInput_buf : s.resetInput.buf = s.buf := rfl
@[simp] theorem State.resetInput_stalled : s.resetInput.stalled = s.stalled := rfl
@[simp] theorem State.resetInput_script : s.resetInput.script = s.script := rfl
@[simp] theorem State.resetInput_acks : s.resetInput.acks = s.acks := rfl
@[simp] theorem State.resetInput_reads : s.resetInput.reads = s.reads := rfl
@[simp] theorem State.resetInput_ackDraws : s.resetInput.ackDraws = s.ackDraws := rfl
@[simp] theorem State.resetInput_byteDraws : s.resetInput.byteDraws = s.byteDraws := rfl
@[simp] theorem State.resetInput_draws : s.resetInput.draws = s.draws + 1 := rfl
@[simp] theorem State.resetInput_trace : s.resetInput.trace = s.trace ++ [.resetInput s.busy] := rfl
@[simp] theorem State.resetInput_seen : s.resetInput.seen = s.seen := rfl

/-! ## The composite operations -/

@[simp] theorem State.countedStart_eq (a : BusAddr) (d : Dir) :
    s.countedStart a d = (s.startCall a d).counted (s.ackAt 0) := rfl
@[simp] theorem State.countedWrite_eq (v : Byte) :
    s.countedWrite v = (s.writeCall v).counted (s.ackAt 0) := rfl
@[simp] theorem State.finishByAcc_eq : s.finishByAcc = s.finish (resultOfAcc s.acc) := rfl
@[simp] theorem State.finishByDraw_eq :
    s.finishByDraw = s.drawn.finish (resultOfAcc (Config.freeZeroLengthOk s.draws)) := rfl

/-! ## The replies -/

/-- Two states with the same replies to come answer the same acknowledge. -/
theorem State.ackAt_congr {s t : State} (h : s.acks = t.acks) (hd : s.ackDraws = t.ackDraws) (k : Nat) :
    s.ackAt k = t.ackAt k := by
  simp only [State.ackAt, h, hd]

/-- Two states with the same bytes to come return the same byte. -/
theorem State.byteAt_congr {s t : State} (h : s.reads = t.reads) (hd : s.byteDraws = t.byteDraws) (k : Nat) :
    s.byteAt k = t.byteAt k := by
  simp only [State.byteAt, h, hd]

/-- After `n` acknowledges have been taken, the next are those that stood `n` places further on. -/
theorem State.ackAt_drop {s t : State} (n : Nat) (h : t.acks = s.acks.drop n) (hd : t.ackDraws = s.ackDraws + n)
    (k : Nat) : t.ackAt k = s.ackAt (n + k) := by
  simp only [State.ackAt, h, hd, List.getElem?_drop, Nat.add_assoc]

/-- After `n` bytes have been taken, the next are those that stood `n` places further on. -/
theorem State.byteAt_drop {s t : State} (n : Nat) (h : t.reads = s.reads.drop n)
    (hd : t.byteDraws = s.byteDraws + n) (k : Nat) : t.byteAt k = s.byteAt (n + k) := by
  simp only [State.byteAt, h, hd, List.getElem?_drop, Nat.add_assoc]

@[simp] theorem State.startCall_ackAt (a : BusAddr) (d : Dir) (k : Nat) :
    (s.startCall a d).ackAt k = s.ackAt (1 + k) :=
  State.ackAt_drop 1 (by simp [List.drop_one]) rfl k
@[simp] theorem State.startCall_byteAt (a : BusAddr) (d : Dir) (k : Nat) : (s.startCall a d).byteAt k = s.byteAt k := rfl
@[simp] theorem State.writeCall_ackAt (v : Byte) (k : Nat) :
    (s.writeCall v).ackAt k = s.ackAt (1 + k) :=
  State.ackAt_drop 1 (by simp [List.drop_one]) rfl k
@[simp] theorem State.writeCall_byteAt (v : Byte) (k : Nat) : (s.writeCall v).byteAt k = s.byteAt k := rfl
@[simp] theorem State.readCall_byteAt (k : Nat) : s.readCall.byteAt k = s.byteAt (1 + k) :=
  State.byteAt_drop 1 (by simp [List.drop_one]) rfl k
@[simp] theorem State.readCall_ackAt (k : Nat) : s.readCall.ackAt k = s.ackAt k := rfl
@[simp] theorem State.stopCall_ackAt (k : Nat) : s.stopCall.ackAt k = s.ackAt k := rfl
@[simp] theorem State.stopCall_byteAt (k : Nat) : s.stopCall.byteAt k = s.byteAt k := rfl
@[simp] theorem State.yieldCall_ackAt (k : Nat) : s.yieldCall.ackAt k = s.ackAt k := rfl
@[simp] theorem State.yieldCall_byteAt (k : Nat) : s.yieldCall.byteAt k = s.byteAt k := rfl
@[simp] theorem State.loadCall_ackAt (k : Nat) : s.loadCall.ackAt k = s.ackAt k := rfl
@[simp] theorem State.loadCall_byteAt (k : Nat) : s.loadCall.byteAt k = s.byteAt k := rfl
@[simp] theorem State.storeCall_ackAt (k : Nat) : s.storeCall.ackAt k = s.ackAt k := rfl
@[simp] theorem State.storeCall_byteAt (k : Nat) : s.storeCall.byteAt k = s.byteAt k := rfl
@[simp] theorem State.goto_ackAt (l : Label) (k : Nat) : (s.goto l).ackAt k = s.ackAt k := rfl
@[simp] theorem State.goto_byteAt (l : Label) (k : Nat) : (s.goto l).byteAt k = s.byteAt k := rfl
@[simp] theorem State.withHs_ackAt (h : HsState) (k : Nat) : (s.withHs h).ackAt k = s.ackAt k := rfl
@[simp] theorem State.withHs_byteAt (h : HsState) (k : Nat) : (s.withHs h).byteAt k = s.byteAt k := rfl
@[simp] theorem State.countAttempt_ackAt (k : Nat) : s.countAttempt.ackAt k = s.ackAt k := rfl
@[simp] theorem State.countAttempt_byteAt (k : Nat) : s.countAttempt.byteAt k = s.byteAt k := rfl
@[simp] theorem State.withData_ackAt (v : Byte) (k : Nat) : (s.withData v).ackAt k = s.ackAt k := rfl
@[simp] theorem State.withData_byteAt (v : Byte) (k : Nat) : (s.withData v).byteAt k = s.byteAt k := rfl
@[simp] theorem State.secondPass_ackAt (k : Nat) : s.secondPass.ackAt k = s.ackAt k := rfl
@[simp] theorem State.secondPass_byteAt (k : Nat) : s.secondPass.byteAt k = s.byteAt k := rfl
@[simp] theorem State.countByte_ackAt (k : Nat) : s.countByte.ackAt k = s.ackAt k := rfl
@[simp] theorem State.countByte_byteAt (k : Nat) : s.countByte.byteAt k = s.byteAt k := rfl
@[simp] theorem State.startByte_ackAt (l : Label) (k : Nat) : (s.startByte l).ackAt k = s.ackAt k := rfl
@[simp] theorem State.startByte_byteAt (l : Label) (k : Nat) : (s.startByte l).byteAt k = s.byteAt k := rfl
@[simp] theorem State.drawn_ackAt (k : Nat) : s.drawn.ackAt k = s.ackAt k := rfl
@[simp] theorem State.drawn_byteAt (k : Nat) : s.drawn.byteAt k = s.byteAt k := rfl
@[simp] theorem State.finish_ackAt (r : Result) (k : Nat) : (s.finish r).ackAt k = s.ackAt k := rfl
@[simp] theorem State.finish_byteAt (r : Result) (k : Nat) : (s.finish r).byteAt k = s.byteAt k := rfl
@[simp] theorem State.issue_ackAt (i : Instr) (l : Label) (k : Nat) : (s.issue i l).ackAt k = s.ackAt k := rfl
@[simp] theorem State.issue_byteAt (i : Instr) (l : Label) (k : Nat) : (s.issue i l).byteAt k = s.byteAt k := rfl
@[simp] theorem State.counted_ackAt (a : Bool) (k : Nat) : (s.counted a).ackAt k = s.ackAt k := rfl
@[simp] theorem State.counted_byteAt (a : Bool) (k : Nat) : (s.counted a).byteAt k = s.byteAt k := rfl

end Sys2Proof.Machine
end

