-- ==== Sys2Proof/Laws/Ops.lean ====
section
/-! SUPPORT. What each shared operation can do, said once: if it answers a state, then one of these cases holds.
Later proofs cite these and do not unfold the operations. -/

namespace Sys2Proof.Machine

variable {s t : State}

/-! ## operate -/

@[simp] theorem operate_idle {i : Instr} {l : Label} {micro : State → Option State} (h : s.busy = false) :
    operate i l micro s = .next (s.issue i l) := by
  simp [operate, h]

theorem operate_busy {i : Instr} {l : Label} {micro : State → Option State} (h : s.busy = true)
    (hm : micro s = some t) : operate i l micro s = .next t := by
  simp [operate, h, hm]

/-- A step of an operation is its issue, or the step its micro-program gives. -/
theorem operate_cases {i : Instr} {l : Label} {micro : State → Option State} (h : operate i l micro s = .next t) :
    (s.busy = false ∧ t = s.issue i l) ∨ (s.busy = true ∧ micro s = some t) := by
  unfold operate at h
  split at h
  · next hb =>
    split at h
    · next u hu => cases h; exact .inr ⟨hb, hu⟩
    · cases h
  · next hb => cases h; exact .inl ⟨by simpa using hb, rfl⟩

theorem operate_not_refused {i : Instr} {l : Label} {micro : State → Option State} (r : Refusal) :
    operate i l micro s ≠ .refused r := by
  unfold operate
  split
  · split <;> simp
  · simp

/-- A step of an operation faults only where the micro-program gives no step. -/
theorem operate_fault {i : Instr} {l : Label} {micro : State → Option State} {f : Fault}
    (h : operate i l micro s = .fault f) : s.busy = true ∧ micro s = none := by
  unfold operate at h
  split at h
  · next hb =>
    split at h
    · cases h
    · next hu => exact ⟨hb, hu⟩
  · cases h

/-! ## HANDSHAKE and RESET -/

/-- Step H3 (R133, R136). -/
theorem handshakeNacked_cases (s : State) :
    (s.att.toNat < s.cfg.retryBound ∧ handshakeNacked s = s.stopCall.goto .h2) ∨
    (s.cfg.retryBound ≤ s.att.toNat ∧ handshakeNacked s = (s.stopCall.withHs .failed).finish .fail) := by
  unfold handshakeNacked
  split
  · next h => exact .inl ⟨h, rfl⟩
  · next h => exact .inr ⟨Nat.le_of_not_lt h, rfl⟩

/-- The steps of HANDSHAKE (R130). -/
theorem handshakeStep_cases (h : handshakeStep s = some t) :
    (s.seq = .h0 ∧ t = ((s.startCall s.cfg.addrData s.cfg.dirPreamble).withHs .retrying).goto .h1) ∨
    (s.seq = .h1 ∧ t = s.stopCall.goto .h2) ∨
    (s.seq = .h2 ∧ t = (s.startCall s.cfg.addrReset s.cfg.dirHsReset).countAttempt.goto
      (if s.ackAt 0 then .h4 else .h3)) ∨
    (s.seq = .h3 ∧ s.att.toNat < s.cfg.retryBound ∧ t = s.stopCall.goto .h2) ∨
    (s.seq = .h3 ∧ s.cfg.retryBound ≤ s.att.toNat ∧ t = (s.stopCall.withHs .failed).finish .fail) ∨
    (s.seq = .h4 ∧ t = (s.writeCall s.cfg.hs1).goto .h5) ∨
    (s.seq = .h5 ∧ t = (s.writeCall s.cfg.hs2).goto .h6) ∨
    (s.seq = .h6 ∧ t = s.stopCall.goto .h7) ∨
    (s.seq = .h7 ∧ t = (s.startCall s.cfg.addrCmd .read).goto (s.afterRequest .hr .h8)) ∨
    (s.seq = .hr ∧ t = s.readCall.goto .h8) ∨
    (s.seq = .h8 ∧ t = (s.stopCall.withHs .acknowledged).finish .ok) := by
  unfold handshakeStep at h
  have hn := handshakeNacked_cases s
  split at h <;> rename_i hs
  all_goals first
    | (simp only [reduceCtorEq] at h)
    | (simp only [Option.some.injEq] at h; subst h; simp only [hs, reduceCtorEq, true_and, false_and, or_true,
        false_or, or_false, handshakeAttempt]; try exact hn)

/-- The steps of RESET (R160). -/
theorem resetMcuStep_cases (h : resetMcuStep s = some t) :
    (s.seq = .x0 ∧ t = (s.startCall s.cfg.addrReset .read).goto (s.afterRequest .xr .x1)) ∨
    (s.seq = .xr ∧ t = s.readCall.goto .x1) ∨
    (s.seq = .x1 ∧ t = s.stopCall.finish .unverified) := by
  unfold resetMcuStep at h
  split at h <;> rename_i hs
  · exact .inl ⟨hs, (Option.some.inj h).symm⟩
  · exact .inr (.inl ⟨hs, (Option.some.inj h).symm⟩)
  · exact .inr (.inr ⟨hs, (Option.some.inj h).symm⟩)
  · cases h

/-! ## The phases -/

/-- The steps of a primitive (R151 to R153). -/
theorem primStep_cases {p : Prim} {done : State → State} (h : primStep p done s = some t) :
    (s.seq = .c0 ∧ t = (s.countedStart s.cfg.addrCmd .write).goto .c1) ∨
    (s.seq = .c1 ∧ t = (s.countedWrite p.cmd).goto p.afterCmd) ∨
    (s.seq = .c2 ∧ ∃ b, p.addrBytes = [b] ∧ t = (s.countedWrite b).goto .c4) ∨
    (s.seq = .c2 ∧ ∃ b c r, p.addrBytes = b :: c :: r ∧ t = (s.countedWrite b).goto .c3) ∨
    (s.seq = .c3 ∧ ∃ b c r, p.addrBytes = b :: c :: r ∧ t = (s.countedWrite c).goto .c4) ∨
    (s.seq = .c4 ∧ p.data = .none ∧ t = done s.stopCall) ∨
    (s.seq = .c4 ∧ p.data ≠ .none ∧ t = s.stopCall.goto .d0) ∨
    (s.seq = .d0 ∧ p.data = .read ∧ t = (s.countedStart s.cfg.addrData .read).goto .d1) ∨
    (s.seq = .d0 ∧ (∃ d, p.data = .write d) ∧ t = (s.countedStart s.cfg.addrData .write).goto .d1) ∨
    (s.seq = .d1 ∧ p.data = .read ∧ t = (s.readCall.withData (s.byteAt 0)).goto .d2) ∨
    (s.seq = .d1 ∧ ∃ d, p.data = .write d ∧ t = (s.countedWrite d).goto .d2) ∨
    (s.seq = .d2 ∧ p.data ≠ .none ∧ t = done s.stopCall) := by
  unfold primStep at h
  split at h <;> rename_i hs
  all_goals try (split at h <;> rename_i hp)
  all_goals first
    | (simp only [reduceCtorEq] at h)
    | (simp only [Option.some.injEq] at h; subst h
       simp only [hs, reduceCtorEq, true_and, false_and, or_true, false_or, or_false])
  all_goals first
    | exact .inl ⟨_, hp, rfl⟩
    | exact .inr ⟨_, _, _, hp, rfl⟩
    | exact ⟨_, _, _, hp, rfl⟩
    | simp [hp]

/-- The end of a config write's pass (R157). -/
theorem doubled_cases (done : State → State) (s : State) :
    (s.pass = true ∧ doubled done s = done s) ∨
    (s.pass = false ∧ doubled done s = s.secondPass) := by
  unfold doubled
  cases s.pass <;> simp

/-- Step BCHK (R191, R192). -/
theorem blockCheck_cases (r : Bool) (l : Label) (s : State) :
    (r = true ∧ blockCheck r l s = s.finish .fail) ∨
    (r = false ∧ s.len = 0 ∧ blockCheck r l s = s.finishByDraw) ∨
    (r = false ∧ s.len ≠ 0 ∧ blockCheck r l s = s.goto l) := by
  unfold blockCheck
  cases r
  · by_cases h : s.len = 0
    · exact .inr (.inl ⟨rfl, h, by simp only [Bool.false_eq_true, if_false, if_pos h]⟩)
    · exact .inr (.inr ⟨rfl, h, by simp only [Bool.false_eq_true, if_false, if_neg h]⟩)
  · exact .inl ⟨rfl, rfl⟩

theorem blockCheck_range {r : Bool} (l : Label) (s : State) (h : r = true) : blockCheck r l s = s.finish .fail := by
  simp [blockCheck, h]

theorem blockCheck_zero {r : Bool} (l : Label) {s : State} (h : r = false) (hl : s.len = 0) :
    blockCheck r l s = s.finishByDraw := by
  simp only [blockCheck, h, hl, Bool.false_eq_true, if_false, if_true]

theorem blockCheck_first {r : Bool} (l : Label) {s : State} (h : r = false) (hl : s.len ≠ 0) :
    blockCheck r l s = s.goto l := by
  simp only [blockCheck, h, if_neg hl, Bool.false_eq_true, if_false]

/-- Step BNX (R190, R193). -/
theorem blockNext_cases (l : Label) (s : State) :
    (s.idx + 1 < s.len ∧ blockNext l s = s.countByte.startByte l) ∨
    (¬ s.idx + 1 < s.len ∧ blockNext l s = s.countByte.finishByAcc) := by
  unfold blockNext
  by_cases h : s.idx + 1 < s.len
  · exact .inl ⟨h, if_pos h⟩
  · exact .inr ⟨h, if_neg h⟩

/-- The steps of a block read (R190). -/
theorem blockReadStep_cases {r : Bool} {prim : State → Option State} (h : blockReadStep r prim s = some t) :
    (s.seq = .bchk ∧ t = blockCheck r .c0 s) ∨
    (s.seq = .bst ∧ t = s.storeCall.goto .byl) ∨
    (s.seq = .byl ∧ t = s.yieldCall.goto .bnx) ∨
    (s.seq = .bnx ∧ t = blockNext .c0 s) ∨
    (s.seq ≠ .bchk ∧ s.seq ≠ .bst ∧ s.seq ≠ .byl ∧ s.seq ≠ .bnx ∧ prim s = some t) := by
  unfold blockReadStep at h
  split at h <;> simp_all

/-- The steps of a block write (R190). -/
theorem blockWriteStep_cases {r : Bool} {prim : State → Option State} (h : blockWriteStep r prim s = some t) :
    (s.seq = .bchk ∧ t = blockCheck r .bld s) ∨
    (s.seq = .bld ∧ t = (s.loadCall.withData s.loadedByte).goto .c0) ∨
    (s.seq = .bnx ∧ t = blockNext .bld s) ∨
    (s.seq ≠ .bchk ∧ s.seq ≠ .bld ∧ s.seq ≠ .bnx ∧ prim s = some t) := by
  unfold blockWriteStep at h
  split at h <;> simp_all

/-- The refusal of D13, or the step as it is. -/
theorem rangeGuard_cases (r : Bool) (s : State) (o : StepOutcome) :
    (s.busy = true ∧ s.seq = .bchk ∧ r = true ∧ s.cfg.blockRangeCheck = false ∧
      rangeGuard r s o = .refused .blockOutOfRange) ∨
    rangeGuard r s o = o := by
  unfold rangeGuard
  split
  · next h =>
    simp only [Bool.and_eq_true, beq_iff_eq, Bool.not_eq_true'] at h
    exact .inl ⟨h.1.1.1, h.1.1.2, h.1.2, h.2, rfl⟩
  · exact .inr rfl

/-- A guarded step that goes on is the step. -/
theorem rangeGuard_next {r : Bool} {o : StepOutcome} (h : rangeGuard r s o = .next t) : o = .next t := by
  rcases rangeGuard_cases r s o with ⟨-, -, -, -, he⟩ | he <;> rw [he] at h
  · cases h
  · exact h

/-- Where the range holds nothing is guarded. -/
@[simp] theorem rangeGuard_false (s : State) (o : StepOutcome) : rangeGuard false s o = o := by
  simp [rangeGuard]

/-- The issue is not guarded. -/
theorem rangeGuard_idle {r : Bool} {o : StepOutcome} (h : s.busy = false) : rangeGuard r s o = o := by
  simp [rangeGuard, h]

/-- Only step `BCHK` is guarded. -/
theorem rangeGuard_step {r : Bool} {o : StepOutcome} (h : s.seq ≠ .bchk) : rangeGuard r s o = o := by
  simp [rangeGuard, h]

/-- On this hardware nothing is guarded (D13). -/
theorem rangeGuard_checked {r : Bool} {o : StepOutcome} (h : s.cfg.blockRangeCheck = true) : rangeGuard r s o = o := by
  simp [rangeGuard, h]

/-- D13, where the parameter is false. -/
theorem rangeGuard_refuses {o : StepOutcome} (hb : s.busy = true) (hs : s.seq = .bchk)
    (hc : s.cfg.blockRangeCheck = false) : rangeGuard true s o = .refused .blockOutOfRange := by
  simp [rangeGuard, hb, hs, hc]

/-! ## Runs -/

@[simp] theorem runOp_zero (i : Instr) (s : State) : runOp i 0 s = .next s := rfl

theorem runOp_succ {i : Instr} {n : Nat} (h : exec i s = .next t) : runOp i (n + 1) s = runOp i n t := by
  simp [runOp, h]

/-- A run of `m + n` steps is one of `m` and then one of `n`. -/
theorem runOp_add {i : Instr} {n : Nat} : ∀ {m : Nat} {s : State}, runOp i m s = .next t →
    runOp i (m + n) s = runOp i n t
  | 0, s, h => by cases h; simp
  | m + 1, s, h => by
    rw [Nat.add_right_comm]
    simp only [runOp] at h ⊢
    split at h <;> first | cases h | (next u hu => simpa [hu] using runOp_add h)

end Sys2Proof.Machine
end

