-- ==== Sys2Proof/Laws/Exec.lean ====
section
/-! SUPPORT. Every operation as one shape: its issue, or one step of its micro-program. -/

namespace Sys2Proof.Machine

/-- The micro-program of each operation, as its meaning calls it. -/
def microOf (i : Instr) (s : State) : Option State :=
  match i with
  | .handshake => handshakeStep s
  | .reset => resetMcuStep s
  | .erase => primStep s.erasePrim State.finishByAcc s
  | .rdtype => primStep (s.rdcfgPrim s.cfg.chiptypeOffset) State.finishByAcc s
  | .wrflash => primStep (s.wrflashPrim s.addr) State.finishByAcc s
  | .rdflash => primStep (s.rdflashPrim s.addr) State.finishByAcc s
  | .wrcfg => primStep (s.wrcfgPrim (lowByte s.addr)) (doubled State.finishByAcc) s
  | .rdcfg => primStep (s.rdcfgPrim (lowByte s.addr)) State.finishByAcc s
  | .wrfblk => blockWriteStep s.flashRangeFails (primStep (s.wrflashPrim s.blockFlashAddr) thenNext) s
  | .rdfblk => blockReadStep s.flashRangeFails (primStep (s.rdflashPrim s.blockFlashAddr) thenStore) s
  | .wrcblk => blockWriteStep s.cfgRangeFails (primStep (s.wrcfgPrim s.blockCfgAddr) (doubled thenNext)) s
  | .rdcblk => blockReadStep s.cfgRangeFails (primStep (s.rdcfgPrim s.blockCfgAddr) thenStore) s

/-- Every operation: issue or micro-step, guarded by its range check, which only the blocks have. -/
theorem exec_eq (i : Instr) (s : State) :
    exec i s = rangeGuard (rangeFails i s) s (operate i (firstStep i) (microOf i) s) := by
  cases i <;> first | rfl | (rw [show rangeFails _ s = false from rfl, rangeGuard_false]; rfl)

/-- A step of an operation is its issue, or the step its micro-program gives. -/
theorem exec_cases {i : Instr} {s t : State} (h : exec i s = .next t) :
    (s.busy = false ∧ t = s.issue i (firstStep i)) ∨ (s.busy = true ∧ microOf i s = some t) := by
  rw [exec_eq] at h
  exact operate_cases (rangeGuard_next h)

/-- A micro-step is the operation's step, but for a range that fails unchecked (D13). -/
theorem exec_of_micro {i : Instr} {s t : State} (hb : s.busy = true)
    (hr : s.seq = .bchk → rangeFails i s = true → s.cfg.blockRangeCheck = true) (h : microOf i s = some t) :
    exec i s = .next t := by
  rw [exec_eq]
  rcases rangeGuard_cases (rangeFails i s) s (operate i (firstStep i) (microOf i) s) with ⟨-, hs, hf, hc, -⟩ | he
  · simp [hr hs hf] at hc
  · rw [he]; exact operate_busy hb h

/-- The only refusal of an operation is D13's, which this hardware never makes. -/
theorem exec_refused {i : Instr} {s : State} {r : Refusal} (h : exec i s = .refused r) :
    r = .blockOutOfRange ∧ s.busy = true ∧ s.seq = .bchk ∧ rangeFails i s = true ∧ s.cfg.blockRangeCheck = false := by
  rw [exec_eq] at h
  rcases rangeGuard_cases (rangeFails i s) s (operate i (firstStep i) (microOf i) s) with ⟨hb, hs, hf, hc, he⟩ | he <;>
    rw [he] at h
  · cases h; exact ⟨rfl, hb, hs, hf, hc⟩
  · exact absurd h (operate_not_refused r)

/-- An operation faults only where its micro-program has no step. -/
theorem exec_fault {i : Instr} {s : State} {f : Fault} (h : exec i s = .fault f) :
    s.busy = true ∧ microOf i s = none := by
  rw [exec_eq] at h
  rcases rangeGuard_cases (rangeFails i s) s (operate i (firstStep i) (microOf i) s) with ⟨-, -, -, -, he⟩ | he <;>
    rw [he] at h
  · cases h
  · exact operate_fault h

/-- A finish by the accumulator never reports UNVERIFIED (R24, R162). -/
@[simp] theorem resultOfAcc_ne_unverified (b : Bool) : resultOfAcc b ≠ .unverified := by
  cases b <;> simp [resultOfAcc]

/-- A finish always reports (R23). -/
@[simp] theorem resultOfAcc_ne_none (b : Bool) : resultOfAcc b ≠ .none := by
  cases b <;> simp [resultOfAcc]

/-- One event more, one step more of the framing (R68). -/
theorem frameOf_snoc (t : List Event) (e : Event) :
    frameOf (t ++ [e]) = (frameOf t).bind (fun o => frameNext o e) := by
  simp [frameOf, List.foldl_append]

end Sys2Proof.Machine
end

