-- ==== Sys2Proof/Laws/Memory.lean ====
section
/-! SUPPORT. The block buffer: a write keeps the canonical form, a read after it gives what it stored, and every
other index reads as before. -/

namespace Sys2Proof.Machine

theorem Memory.wfFrom_mono {lo lo' : Nat} (h : lo ≤ lo') :
    ∀ {m : Memory}, Memory.wfFrom lo' m = true → Memory.wfFrom lo m = true
  | [], _ => rfl
  | (b, w) :: m, hm => by
    simp only [Memory.wfFrom, Bool.and_eq_true, decide_eq_true_eq] at hm ⊢
    exact ⟨h.trans hm.1, hm.2⟩

theorem Memory.wfFrom_write {a : Nat} (v : Byte) :
    ∀ {m : Memory} {lo : Nat}, lo ≤ a → Memory.wfFrom lo m = true → Memory.wfFrom lo (m.write a v) = true
  | [], lo, h, _ => by simp [Memory.write, Memory.wfFrom, h]
  | (b, w) :: m, lo, h, hm => by
    simp only [Memory.wfFrom, Bool.and_eq_true, decide_eq_true_eq] at hm
    unfold Memory.write
    split
    · next hab => simp [Memory.wfFrom, h, Nat.succ_le_of_lt hab, hm.2]
    · next hab =>
      split
      · next he => subst he; simp [Memory.wfFrom, h, hm.2]
      · next hne =>
        simp only [Memory.wfFrom, Bool.and_eq_true, decide_eq_true_eq]
        exact ⟨hm.1, Memory.wfFrom_write v (by omega) hm.2⟩

/-- A write keeps the canonical form. -/
theorem Memory.wf_write {m : Memory} (a : Nat) (v : Byte) (h : m.wf = true) : (m.write a v).wf = true :=
  Memory.wfFrom_write v (Nat.zero_le a) h

theorem Memory.wf_nil : Memory.wf [] = true := rfl

/-- A read below every listed index finds nothing. -/
theorem Memory.read_below {a : Nat} : ∀ {m : Memory} {lo : Nat}, a < lo → Memory.wfFrom lo m = true → m.read a = none
  | [], _, _, _ => rfl
  | (b, w) :: m, lo, h, hm => by
    simp only [Memory.wfFrom, Bool.and_eq_true, decide_eq_true_eq] at hm
    have hb : a ≠ b := by omega
    simp only [Memory.read, if_neg hb]
    exact Memory.read_below (lo := b + 1) (by omega) hm.2

/-- A read after a write to the same index gives the byte written. -/
@[simp] theorem Memory.read_write_same (a : Nat) (v : Byte) : ∀ m : Memory, (m.write a v).read a = some v
  | [] => by simp [Memory.write, Memory.read]
  | (b, w) :: m => by
    unfold Memory.write
    split
    · simp [Memory.read]
    · split
      · simp [Memory.read]
      · next hne => simp [Memory.read, if_neg hne, Memory.read_write_same a v m]

/-- A write leaves every other index as it was. -/
theorem Memory.read_write_other {a b : Nat} (v : Byte) (h : b ≠ a) : ∀ m : Memory, (m.write a v).read b = m.read b
  | [] => by simp [Memory.write, Memory.read, h]
  | (c, w) :: m => by
    unfold Memory.write
    split
    · simp [Memory.read, h]
    · split
      · next he => subst he; simp [Memory.read, h]
      · simp only [Memory.read, Memory.read_write_other v h m]

end Sys2Proof.Machine
end

