-- ==== Sys2Proof/Laws/Operands.lean ====
section
/-! SUPPORT. The small lemmas of the operands: bytes of a word, the range checks as inequalities, and the
addresses of a block's bytes. -/

namespace Sys2Proof.Machine

/-- The low byte of a zero-extended byte is the byte (R30: a byte written through a 16-bit host write). -/
@[simp] theorem lowByte_setWidth (b : Byte) : lowByte (b.setWidth 16) = b := by
  apply BitVec.eq_of_toNat_eq
  have h := b.isLt
  simp only [lowByte, BitVec.extractLsb'_toNat, BitVec.toNat_setWidth, Nat.shiftRight_zero]
  omega

/-- The low byte of a word is its extract (R106). -/
theorem lowByte_eq (w : Word) : lowByte w = w.extractLsb' 0 8 := rfl

theorem highByte_eq (w : Word) : highByte w = w.extractLsb' 8 8 := rfl

/-- R191 on the flash space. -/
theorem State.flashRangeFails_iff (s : State) :
    s.flashRangeFails = true ↔ s.cfg.flashSize < s.addr.toNat + s.len.toNat := by
  simp [State.flashRangeFails]

theorem State.flashRangeFails_eq_false (s : State) :
    s.flashRangeFails = false ↔ s.addr.toNat + s.len.toNat ≤ s.cfg.flashSize := by
  simp [State.flashRangeFails]

/-- R191 on the config space. -/
theorem State.cfgRangeFails_iff (s : State) :
    s.cfgRangeFails = true ↔ s.cfg.cfgSize < (lowByte s.addr).toNat + s.len.toNat := by
  simp [State.cfgRangeFails]

theorem State.cfgRangeFails_eq_false (s : State) :
    s.cfgRangeFails = false ↔ (lowByte s.addr).toNat + s.len.toNat ≤ s.cfg.cfgSize := by
  simp [State.cfgRangeFails]

/-- The low byte of an index is the index as a byte (R106). -/
theorem lowByte_ofNat (n : Nat) : lowByte (BitVec.ofNat 16 n) = BitVec.ofNat 8 n := by
  apply BitVec.eq_of_toNat_eq
  simp only [lowByte, BitVec.extractLsb'_toNat, BitVec.toNat_ofNat, Nat.shiftRight_zero]
  omega

end Sys2Proof.Machine
end

