-- ==== Sys2Proof/Laws/PerInstr.lean ====
section
/-! SUPPORT. Families of statements about every operation as syntax, one lemma per operation. -/

namespace Sys2Proof.Laws

/-- R100, R102: an operation's opcode is exactly the byte of its fields: reading the byte as format OP8 gives the
fields back, and they are well formed. -/
def OpcodeFields.Statement (i : Instr) : Prop :=
  op8Fields (encode i) = encodeFields i ∧ (encodeFields i).wf = true

theorem OpcodeFields.handshake : OpcodeFields.Statement .handshake := by
  unfold OpcodeFields.Statement; decide
theorem OpcodeFields.reset : OpcodeFields.Statement .reset := by
  unfold OpcodeFields.Statement; decide
theorem OpcodeFields.erase : OpcodeFields.Statement .erase := by
  unfold OpcodeFields.Statement; decide
theorem OpcodeFields.rdtype : OpcodeFields.Statement .rdtype := by
  unfold OpcodeFields.Statement; decide
theorem OpcodeFields.wrflash : OpcodeFields.Statement .wrflash := by
  unfold OpcodeFields.Statement; decide
theorem OpcodeFields.rdflash : OpcodeFields.Statement .rdflash := by
  unfold OpcodeFields.Statement; decide
theorem OpcodeFields.wrcfg : OpcodeFields.Statement .wrcfg := by
  unfold OpcodeFields.Statement; decide
theorem OpcodeFields.rdcfg : OpcodeFields.Statement .rdcfg := by
  unfold OpcodeFields.Statement; decide
theorem OpcodeFields.wrfblk : OpcodeFields.Statement .wrfblk := by
  unfold OpcodeFields.Statement; decide
theorem OpcodeFields.rdfblk : OpcodeFields.Statement .rdfblk := by
  unfold OpcodeFields.Statement; decide
theorem OpcodeFields.wrcblk : OpcodeFields.Statement .wrcblk := by
  unfold OpcodeFields.Statement; decide
theorem OpcodeFields.rdcblk : OpcodeFields.Statement .rdcblk := by
  unfold OpcodeFields.Statement; decide

end Sys2Proof.Laws
end

