-- ==== Sys2Proof/Laws/Step.lean ====
section
/-! SUPPORT. What one step of the machine can do, said once: a step of an operation, a move of the host that runs
none, or the reset input. -/

namespace Sys2Proof.Machine

/-- What a host move that runs no operation may write, as one update. -/
def State.hostWrote (s : State) (rest : List Move) (addr len : Word) (data opc : Byte) (res : Result) (buf : Memory)
    (stalled : Bool) (seen : List Seen) : State :=
  { s with
    script := rest, addr := addr, len := len, data := data, opc := opc, res := res, buf := buf, stalled := stalled
    seen := seen }

/-- The step is one of an operation: of the one OPC holds while busy, of the one a write to CMD selects while idle. -/
def RunsOperation (s t : State) : Prop :=
  ∃ (i : Instr) (rest : List Move), exec i { s with script := rest } = .next t ∧
    (s.busy = true → decode s.opc = .op i) ∧
    (s.busy = false → ∃ v, s.script = .writeReg 0 v :: rest ∧ decode (lowByte v) = .op i)

/-- The step is a move that runs no operation: while busy it writes no register and no buffer byte; OPC and RES
change by a reserved opcode alone (R103). -/
def HostOnly (s t : State) : Prop :=
  ∃ rest addr len data opc res buf stalled seen,
    t = s.hostWrote rest addr len data opc res buf stalled seen ∧
    (s.buf.wf = true → buf.wf = true) ∧
    (s.busy = true → addr = s.addr ∧ len = s.len ∧ data = s.data ∧ opc = s.opc ∧ res = s.res ∧ buf = s.buf) ∧
    ((opc = s.opc ∧ res = s.res) ∨ (res = .fail ∧ ∃ r, decode opc = .reject r))

theorem HostOnly.quiet (s : State) (rest : List Move) (st : Bool) (sn : List Seen) :
    HostOnly s { s with script := rest, stalled := st, seen := sn } :=
  ⟨rest, s.addr, s.len, s.data, s.opc, s.res, s.buf, st, sn, rfl, id, fun _ => ⟨rfl, rfl, rfl, rfl, rfl, rfl⟩,
    .inl ⟨rfl, rfl⟩⟩

theorem sequencerTurn_cases {s t : State} {rest : List Move} (h : sequencerTurn { s with script := rest } = .next t) :
    (s.busy = true ∧ ∃ i, decode s.opc = .op i ∧ exec i { s with script := rest } = .next t) ∨
    t = { s with script := rest } := by
  unfold sequencerTurn at h
  split at h
  · next hb =>
    split at h
    · exact .inr (by cases h; rfl)
    · split at h
      · next i hd => exact .inl ⟨hb, i, hd, h⟩
      · cases h
  · exact .inr (by cases h; rfl)

theorem turn_cases {s t : State} {rest : List Move} (h : sequencerTurn { s with script := rest } = .next t) :
    RunsOperation s t ∨ HostOnly s t := by
  rcases sequencerTurn_cases h with ⟨hb, i, hd, he⟩ | rfl
  · exact .inl ⟨i, rest, he, fun _ => hd, fun hf => by simp [hb] at hf⟩
  · exact .inr (.quiet s rest s.stalled s.seen)

/-- While idle, a write to a register. -/
theorem hostWrite_cases {s t : State} {rest : List Move} {n : Nat} {v : Word} (hs : s.script = .writeReg n v :: rest)
    (h : hostWrite n v { s with script := rest } = .next t) : RunsOperation s t ∨ HostOnly s t := by
  unfold hostWrite at h
  split at h
  · split at h <;> cases h
    exact .inr (.quiet s rest s.stalled s.seen)
  · next hb =>
    have hb : s.busy = false := by simpa using hb
    have hq : ∀ {p : Prop}, s.busy = true → p := fun h' => by simp [hb] at h'
    split at h
    · unfold writeCmd at h
      split at h
      · next i hd => exact .inl ⟨i, rest, h, hq, fun _ => ⟨v, hs, hd⟩⟩
      · next r hd =>
        split at h <;> cases h
        exact .inr ⟨rest, s.addr, s.len, s.data, _, _, s.buf, s.stalled, s.seen, rfl, id, hq, .inr ⟨rfl, r, hd⟩⟩
    · cases h; exact .inr ⟨rest, v, s.len, s.data, s.opc, s.res, s.buf, s.stalled, s.seen, rfl, id, hq, .inl ⟨rfl, rfl⟩⟩
    · cases h; exact .inr ⟨rest, s.addr, v, s.data, s.opc, s.res, s.buf, s.stalled, s.seen, rfl, id, hq, .inl ⟨rfl, rfl⟩⟩
    · cases h
      exact .inr ⟨rest, s.addr, s.len, lowByte v, s.opc, s.res, s.buf, s.stalled, s.seen, rfl, id, hq, .inl ⟨rfl, rfl⟩⟩
    · cases h; exact .inr (.quiet s rest s.stalled s.seen)

/-- One step. -/
theorem step_cases {s t : State} (h : step s = .next t) :
    RunsOperation s t ∨ HostOnly s t ∨ ∃ rest, s.script = .assertReset :: rest ∧ t = { s with script := rest }.resetInput := by
  unfold step at h
  split at h
  · next hs =>
    have hs' : s = { s with script := [] } := by cases s; cases hs; rfl
    rw [hs'] at h
    exact (turn_cases h).imp_right .inl
  · next m rest hs =>
    cases m <;> simp only [takeMove] at h
    case letStep => exact (turn_cases h).imp_right .inl
    case await =>
      split at h
      · exact (turn_cases (rest := s.script) h).imp_right .inl
      · cases h; exact .inr (.inl (.quiet s rest s.stalled s.seen))
    case readReg n => cases h; exact .inr (.inl (.quiet s rest s.stalled _))
    case writeReg n v => exact (hostWrite_cases hs h).imp_right .inl
    case readBuf a => split at h <;> cases h; exact .inr (.inl (.quiet s rest s.stalled _))
    case writeBuf a v =>
      split at h <;> cases h
      next hb =>
      exact .inr (.inl ⟨rest, s.addr, s.len, s.data, s.opc, s.res, _, s.stalled, s.seen, rfl,
        fun hw => Memory.wf_write _ _ hw, fun h' => absurd h' hb, .inl ⟨rfl, rfl⟩⟩)
    case stall => cases h; exact .inr (.inl (.quiet s rest _ s.seen))
    case resume => cases h; exact .inr (.inl (.quiet s rest _ s.seen))
    case assertReset => cases h; exact .inr (.inr ⟨rest, hs, rfl⟩)

/-- The buffer of the reset state is in canonical form. -/
theorem State.reset_buf_wf : State.reset.buf.wf = true := rfl

/-- A step of a block read that stores keeps the canonical form (R69). -/
theorem State.storeCall_buf_wf {s : State} (h : s.buf.wf = true) : s.storeCall.buf.wf = true :=
  Memory.wf_write _ _ h

end Sys2Proof.Machine
end

