-- ==== Sys2Proof/Tests/Slice0.lean ====
section
/-! SUPPORT. Our own tests: ill-formed terms, opcodes written out bit by bit from 30_encoding.md R100 and R102, one
step of each operation with the values of 95_test_vectors.md, and a state that meets the hypotheses of each
statement. -/

namespace Sys2Proof.Tests

open Sys2Proof Sys2Proof.Machine

/-! ## Helpers -/

/-- The state with the model refusing a reserved opcode (log entry 23). -/
def strict (s : State) : State := { s with cfg := { s.cfg with refuseReservedOpcodes := true } }

/-- The state with the model ignoring register writes while busy (log entry 23). -/
def lenient (s : State) : State := { s with cfg := { s.cfg with refuseBusyWrites := false } }

/-- The state with read-requests that read a byte (D9's alternative). -/
def readingRequests (s : State) : State := { s with cfg := { s.cfg with rreqReadsByte := true } }

/-- The state with no range check (D13's alternative). -/
def unchecked (s : State) : State := { s with cfg := { s.cfg with blockRangeCheck := false } }

/-- What `f` reads in the next state, none if there is none. -/
def after {α : Type} (o : StepOutcome) (f : State → α) : Option α :=
  match o with
  | .next t => some (f t)
  | .fault _ => none
  | .refused _ => none

/-- An idle state with these operands. -/
def idleAt (addr len : Word) (data : Byte) : State := { State.reset with addr := addr, len := len, data := data }

/-- A state in which `i` is at step `l`, with these operands. -/
def busyAt (i : Instr) (l : Label) (addr len : Word) (data : Byte) : State :=
  { idleAt addr len data with opc := encode i, busy := true, res := .none, seq := l }

/-- The host's moves to come. -/
def withScript (s : State) (ms : List Move) : State := { s with script := ms }

/-! ## Well-formedness -/

theorem test_op8_wf : Op8.wf { zero := 0b000, blk := 0, fn := 0x9 } = true := by decide
theorem test_op8_zero_refused : Op8.wf { zero := 0b001, blk := 0, fn := 0x1 } = false := by decide
theorem test_op8_fn_refused : Op8.wf { zero := 0b000, blk := 0, fn := 0x7 } = false := by decide
theorem test_op8_block_form_refused : Op8.wf { zero := 0b000, blk := 1, fn := 0x1 } = false := by decide
theorem test_config_wf : Config.default.wf = true := by decide
theorem test_config_cfgSize_refused :
    Config.wf { Config.default with cfgSize := 0 } = false ∧ Config.wf { Config.default with cfgSize := 256 } = false := by
  decide
theorem test_config_retryBound_refused :
    Config.wf { Config.default with retryBound := 0 } = false ∧
    Config.wf { Config.default with retryBound := 16 } = false := by decide
theorem test_config_flashSize_refused : Config.wf { Config.default with flashSize := 0x10001 } = false := by decide
theorem test_config_direction_refused : Config.wf { Config.default with dirHsReset := .read } = false := by decide

/-! ## Decoding: each opcode from the bits R100 and R102 give it -/

theorem test_decode_handshake : decode 0b00000001 = .op .handshake := by decide
theorem test_decode_reset : decode 0b00000010 = .op .reset := by decide
theorem test_decode_erase : decode 0b00000011 = .op .erase := by decide
theorem test_decode_rdtype : decode 0b00000100 = .op .rdtype := by decide
theorem test_decode_wrflash : decode 0b00000101 = .op .wrflash := by decide
theorem test_decode_rdflash : decode 0b00000110 = .op .rdflash := by decide
theorem test_decode_wrcfg : decode 0b00001000 = .op .wrcfg := by decide
theorem test_decode_rdcfg : decode 0b00001001 = .op .rdcfg := by decide
theorem test_decode_wrfblk : decode 0b00010101 = .op .wrfblk := by decide
theorem test_decode_rdfblk : decode 0b00010110 = .op .rdfblk := by decide
theorem test_decode_wrcblk : decode 0b00011000 = .op .wrcblk := by decide
theorem test_decode_rdcblk : decode 0b00011001 = .op .rdcblk := by decide

/-- R103, vectors P17, P18. -/
theorem test_decode_reserved :
    decode 0x07 = .reject .noSuchFunction ∧ decode 0x00 = .reject .noSuchFunction ∧
    decode 0x11 = .reject .noBlockForm ∧ decode 0x14 = .reject .noBlockForm ∧
    decode 0x25 = .reject .zeroFieldNotZero ∧ decode 0xFF = .reject .zeroFieldNotZero := by decide

theorem test_decodeTableWord : decodeTableWord 8 0x16 = some .rdfblk ∧ decodeTableWord 8 0x07 = none := by decide

/-- The step after withFetchWord issues the operation (R21). -/
theorem test_withFetchWord :
    after (step (State.reset.withFetchWord 8 0x16)) (fun t => (t.opc, t.busy, t.seq, t.res)) =
      some (0x16, true, .bchk, .none) := by decide

/-! ## The host port -/

/-- STATUS of the table of 95_test_vectors.md. -/
theorem test_status_bytes :
    ({ State.reset with res := .unverified, hs := .acknowledged } : State).statusByte = 0x16 ∧
    ({ State.reset with res := .fail, hs := .failed } : State).statusByte = 0x1C ∧
    ({ State.reset with busy := true, hs := .retrying } : State).statusByte = 0x09 ∧
    ({ State.reset with res := .ok } : State).statusByte = 0x02 := by decide

/-- Vector P13: `HostWrite(4, 0x01A5)` keeps 0xA5. -/
theorem test_hostWrite_data_low_byte :
    after (step (withScript State.reset [.writeReg 4 0x01A5])) (fun t => t.data) = some 0xA5 := by decide

/-- Vector P17: a reserved value. -/
theorem test_hostWrite_reserved :
    after (step (withScript { State.reset with hs := .acknowledged } [.writeReg 0 0x0007]))
      (fun t => (t.opc, t.statusByte, t.trace)) = some (0x07, 0x14, []) := by decide

/-- Vector B20: where a write while busy is not refused it is ignored, and a read gives 0x01. -/
theorem test_host_while_busy :
    after (core.run 2 (withScript (lenient (busyAt .rdfblk .byl 0x0000 2 0)) [.writeReg 2 0x1000, .readReg 1]))
      (fun t => (t.addr, t.seen)) = some (0x0000, [.reg 1 0x0001]) := by decide

/-- R265, U6, U15: a register write at a yield has no step; an absent register ignores the write (R29); U7: a reserved opcode
is refused where the model says so. -/
theorem test_forbidden_moves_refused :
    step (withScript (busyAt .rdfblk .byl 0 2 0) [.writeReg 2 0x1000]) = .refused .registerWrittenWhileBusy ∧
    step (withScript (busyAt .rdfblk .byl 0 2 0) [.writeReg 5 0x1000]) = .next (busyAt .rdfblk .byl 0 2 0) ∧
    step (strict (withScript State.reset [.writeReg 0 0x0007])) = .refused .reservedOpcodeWritten := ⟨rfl, rfl, rfl⟩

/-- R251: after a reset in an open transaction the framing no longer holds and the run has no meaning; a reset while idle
leaves both. -/
theorem test_reset_while_open :
    after (step (withScript { busyAt .erase .c1 0 0 0 with trace := [.start 0x7E .write true] } [.assertReset]))
      (fun t => (frameOf t.trace, hasMeaning t.trace, t.seq)) = some (none, false, .idle) ∧
    after (step (withScript State.reset [.assertReset])) (fun t => (frameOf t.trace, hasMeaning t.trace)) =
      some (some none, true) := by decide

/-! ## One step of each operation -/

/-- S1: a nacked attempt. -/
theorem test_handshake_attempt_nacked :
    after (step { busyAt .handshake .h2 0 0 0 with acks := [false] }) (fun t => (t.seq, t.att, t.trace)) =
      some (.h3, 1, [.start 0x7C .write false]) := by decide

/-- H4: the tenth attempt nacked; STATUS 0x1C. -/
theorem test_handshake_exhausted :
    after (step { busyAt .handshake .h3 0 0 0 with att := 10, hs := .retrying })
      (fun t => (t.statusByte, t.seq, t.trace)) = some (0x1C, .idle, [.stop]) := by decide

/-- P16. -/
theorem test_reset_start :
    after (step { busyAt .reset .x0 0 0 0 with acks := [false] }) (fun t => (t.trace, t.acc)) =
      some ([.start 0x7C .read false], true) := by decide

/-- P15: STATUS 0x16. -/
theorem test_reset_finish :
    after (step { busyAt .reset .x1 0 0 0 with hs := .acknowledged }) (fun t => t.statusByte) = some 0x16 := by decide

/-- P1. -/
theorem test_erase_command :
    after (step { busyAt .erase .c1 0 0 0 with acks := [true] }) (fun t => (t.trace, t.seq)) =
      some ([.write 0x03 true], .c4) := by decide

/-- P2: STATUS 0x14. -/
theorem test_erase_failed :
    after (step { busyAt .erase .c4 0 0 0 with acc := false, hs := .acknowledged }) (fun t => t.statusByte) =
      some 0x14 := by decide

/-- P14: ADDR is not used. -/
theorem test_rdtype_offset :
    after (step { busyAt .rdtype .c2 0x00FF 0 0 with acks := [true] }) (fun t => t.trace) =
      some [.write 0x00 true] := by decide

/-- P14: the byte is not enforced. -/
theorem test_rdtype_byte :
    after (step { busyAt .rdtype .d1 0x00FF 0 0 with reads := [0x55] }) (fun t => (t.data, t.acc, t.trace)) =
      some (0x55, true, [.read false 0x55]) := by decide

/-- P7: the high address byte is sent first, 0x00 too. -/
theorem test_wrflash_high_byte :
    after (step { busyAt .wrflash .c2 0x0005 0 0x42 with acks := [true] }) (fun t => (t.trace, t.seq)) =
      some ([.write 0x00 true], .c3) := by decide

/-- P8: a nacked payload. -/
theorem test_wrflash_payload_nacked :
    after (step { busyAt .wrflash .d1 0x0100 0 0x42 with acks := [false] }) (fun t => (t.trace, t.acc, t.seq)) =
      some ([.write 0x42 false], false, .d2) := by decide

/-- P6. -/
theorem test_rdflash_low_byte :
    after (step { busyAt .rdflash .c3 0x01FF 0 0 with acks := [true] }) (fun t => (t.trace, t.seq)) =
      some ([.write 0xFF true], .c4) := by decide

/-- R153: a data read starts in read direction on 0x7F. -/
theorem test_rdflash_data_start :
    after (step { busyAt .rdflash .d0 0x0100 0 0 with acks := [false] }) (fun t => (t.trace, t.acc)) =
      some ([.start 0x7F .read false], false) := by decide

/-- P13: ADDR[15:8] is ignored. -/
theorem test_wrcfg_address :
    after (step { busyAt .wrcfg .c2 0x1234 0 0xA5 with acks := [true] }) (fun t => (t.trace, t.seq)) =
      some ([.write 0x34 true], .c4) := by decide

/-- P10: ACC is carried into the second pass. -/
theorem test_wrcfg_second_pass :
    after (step { busyAt .wrcfg .d2 0x0003 0 0xA5 with acc := false }) (fun t => (t.pass, t.acc, t.seq, t.busy)) =
      some (true, false, .c0, true) := by decide

/-- P4. -/
theorem test_rdcfg_command :
    after (step { busyAt .rdcfg .c1 0x0012 0 0 with acks := [true] }) (fun t => (t.trace, t.seq)) =
      some ([.write 0x09 true], .c2) := by decide

/-- P4: RES = OK. -/
theorem test_rdcfg_finish :
    after (step (busyAt .rdcfg .d2 0x0012 0 0)) (fun t => (t.statusByte, t.trace)) = some (0x02, [.stop]) := by decide

/-- PR4 line 2: 0x1FFF + 2 is above 8192. -/
theorem test_wrfblk_range :
    after (step (busyAt .wrfblk .bchk 0x1FFF 2 0)) (fun t => (t.statusByte, t.trace)) = some (0x04, []) := by decide

/-- B11: byte 1 is loaded. -/
theorem test_wrfblk_load :
    after (step { busyAt .wrfblk .bld 0x0100 2 0 with idx := 1, buf := [(0, 0x42), (1, 0x43)] })
      (fun t => (t.data, t.trace, t.seq)) = some (0x43, [.bufRead 1 0x43], .c0) := by decide

/-- B1: the address of byte 1 crosses into 0x02. -/
theorem test_rdfblk_address :
    after (step { busyAt .rdfblk .c2 0x01FF 2 0 with idx := 1, acks := [true] }) (fun t => t.trace) =
      some [.write 0x02 true] := by decide

/-- B1: byte 1 is stored. -/
theorem test_rdfblk_store :
    after (step { busyAt .rdfblk .bst 0x01FF 2 0x22 with idx := 1, buf := [(0, 0x11)] })
      (fun t => (t.buf, t.trace)) = some ([(0, 0x11), (1, 0x22)], [.bufWrite 1 0x22]) := by decide

/-- B19: ACC and PASS are set again for the next byte. -/
theorem test_wrcblk_next :
    after (step { busyAt .wrcblk .bnx 0x0010 2 0xAA with acc := false, pass := true })
      (fun t => (t.idx, t.acc, t.pass, t.seq)) = some (1, true, false, .bld) := by decide

/-- B18: byte 1 goes to offset 0x11. -/
theorem test_wrcblk_address :
    after (step { busyAt .wrcblk .c2 0x0010 2 0xBB with idx := 1, acks := [true] }) (fun t => t.trace) =
      some [.write 0x11 true] := by decide

/-- B14: 0xFE + 1 passes, ADDR[15:8] ignored. -/
theorem test_rdcblk_range_passes :
    after (step (busyAt .rdcblk .bchk 0x01FE 1 0)) (fun t => (t.seq, t.busy)) = some (.c0, true) := by decide

/-- B15: 0xFF + 1 does not. -/
theorem test_rdcblk_range_fails :
    after (step (busyAt .rdcblk .bchk 0x00FF 1 0)) (fun t => t.statusByte) = some 0x04 := by decide

/-! ## The parameters' other values, and the failure classes -/

/-- D9: "a `T.Read(false)` between start and stop is the alternative". -/
theorem test_request_reads :
    after (runOp .reset 4 { readingRequests (idleAt 0 0 0x42) with acks := [false], reads := [0x99] })
      (fun t => (t.trace, t.data, t.res)) =
      some ([.start 0x7C .read false, .read false 0x99, .stop], 0x42, .unverified) := by decide

/-- D13: an out-of-range block is refused where the check is off. -/
theorem test_unchecked_range_refused :
    exec .rdfblk (unchecked (busyAt .rdfblk .bchk 0x1FFF 2 0)) = .refused .blockOutOfRange := rfl

/-- B2, B3 and R221: a nack in a block has a class for the last byte alone. -/
theorem test_failure_class_last_byte :
    failureAt .rdfblk { busyAt .rdfblk .d0 0 3 0 with idx := 1, acks := [false] } = none ∧
    failureAt .rdfblk { busyAt .rdfblk .c3 0 2 0 with idx := 1, acks := [false] } = some .nackCmd := by decide

/-! ## Witnesses: the hypotheses of each statement are met -/

theorem witness_OpcodeTableDecodes :
    ((0x19, .rdcblk) ∈ opcodeTable) ∧ ∀ b ∈ ([0x00, 0x07, 0x0A, 0x14, 0x17, 0x1A, 0xFF] : List Byte),
      ∀ p ∈ opcodeTable, p.1 ≠ b := by decide

theorem witness_DecodeEncodeAgree : decode 0x01 = .op .handshake ∧ decode 0x19 = .op .rdcblk := by decide

theorem witness_RejectionNamesTheCause :
    decode 0x20 = .reject .zeroFieldNotZero ∧ decode 0x11 = .reject .noBlockForm ∧
    decode 0x1F = .reject .noSuchFunction := by decide

theorem witness_ResetPutsTheResetState :
    (withScript (busyAt .rdfblk .c1 1 2 3) [.assertReset]).script = .assertReset :: [] := rfl

theorem witness_IdleSequencerDoesNothing : (idleAt 1 2 3).busy = false ∧ (idleAt 1 2 3).script = [] := ⟨rfl, rfl⟩

theorem witness_ConstantsAreTheSpecs : ∃ t, step (busyAt .reset .x0 0 0 0) = .next t := ⟨_, rfl⟩

theorem witness_StatusRegister :
    (withScript (busyAt .erase .c0 0 0 0) [.readReg 1]).script = .readReg 1 :: [] ∧
    (withScript (idleAt 0 0 0) [.writeReg 1 7]).script = .writeReg 1 7 :: [] ∧ (idleAt 0 0 0).busy = false ∧
    (lenient (withScript (busyAt .erase .c0 0 0 0) [.writeReg 1 7])).script = .writeReg 1 7 :: [] ∧
    (lenient (withScript (busyAt .erase .c0 0 0 0) [.writeReg 1 7])).cfg.refuseBusyWrites = false :=
  ⟨rfl, rfl, rfl, rfl, rfl⟩

theorem witness_AbsentRegisters :
    5 ≤ 5 ∧ (withScript State.reset [.readReg 5]).script = .readReg 5 :: [] ∧
    (withScript (busyAt .erase .c0 0 0 0) [.writeReg 5 7]).script = .writeReg 5 7 :: [] := ⟨by decide, rfl, rfl⟩

theorem witness_HostReadReturnsRegister :
    ∀ n ∈ [0, 1, 2, 3, 4, 5, 65535], (withScript (idleAt 1 2 3) [.readReg n]).script = .readReg n :: [] := by
  intro n _; rfl

theorem witness_HostWriteIdleWritesRegister :
    ∀ n ∈ [1, 2, 3, 4, 5, 65535],
      (idleAt 1 2 3).busy = false ∧ (withScript (idleAt 1 2 3) [.writeReg n 7]).script = .writeReg n 7 :: [] := by
  intro n _; exact ⟨rfl, rfl⟩

theorem witness_HostWriteBusyIsIgnored :
    let s := withScript (busyAt .erase .c0 1 2 3) [.writeReg 0 3]
    let s5 := withScript (busyAt .erase .c0 1 2 3) [.writeReg 5 3]
    (s.busy = true ∧ s.script = .writeReg 0 3 :: [] ∧ s.cfg.refuseBusyWrites = true ∧ 0 ≤ 4) ∧
      (s5.busy = true ∧ s5.script = .writeReg 5 3 :: [] ∧ (s5.cfg.refuseBusyWrites = false ∨ 5 ≤ 5)) ∧
      (lenient s).busy = true ∧ (lenient s).script = .writeReg 0 3 :: [] ∧ (lenient s).cfg.refuseBusyWrites = false := by
  decide

theorem witness_ReservedOpcodeReportsFail :
    let s := withScript State.reset [.writeReg 0 ((0x07 : Byte).setWidth 16)]
    (∀ p ∈ opcodeTable, p.1 ≠ (0x07 : Byte)) ∧
      s.busy = false ∧ s.script = .writeReg 0 ((0x07 : Byte).setWidth 16) :: [] ∧ s.cfg.refuseReservedOpcodes = false ∧
      (strict s).busy = false ∧ (strict s).script = .writeReg 0 ((0x07 : Byte).setWidth 16) :: [] ∧
      (strict s).cfg.refuseReservedOpcodes = true := by decide

theorem witness_OpcodeWriteIssuesOperation :
    (withScript State.reset [.writeReg 0 ((0x19 : Byte).setWidth 16)]).busy = false ∧
    ((0x19 : Byte), Instr.rdcblk) ∈ opcodeTable ∧
    (withScript State.reset [.writeReg 0 ((0x19 : Byte).setWidth 16)]).script =
      .writeReg 0 ((0x19 : Byte).setWidth 16) :: [] := by decide

theorem witness_HostBufferMoves :
    ((withScript State.reset [.writeBuf 0 1]).busy = false ∧
      (withScript State.reset [.writeBuf 0 1]).script = .writeBuf 0 1 :: []) ∧
    ((withScript State.reset [.readBuf 0]).busy = false ∧
      (withScript State.reset [.readBuf 0]).script = .readBuf 0 :: []) ∧
    ((withScript (busyAt .rdfblk .byl 0 1 0) [.writeBuf 0 1]).busy = true ∧
      (withScript (busyAt .rdfblk .byl 0 1 0) [.writeBuf 0 1]).script = .writeBuf 0 1 :: []) ∧
    ((withScript (busyAt .rdfblk .byl 0 1 0) [.readBuf 0]).busy = true ∧
      (withScript (busyAt .rdfblk .byl 0 1 0) [.readBuf 0]).script = .readBuf 0 :: []) := by decide

theorem witness_SessionLineIssuesItsOperation :
    (withScript State.reset (Line.moves (.wrflash 0x0100 0x42))).busy = false ∧
    (withScript State.reset (Line.moves (.wrflash 0x0100 0x42))).script = (Line.wrflash 0x0100 0x42).moves ++ [] := by
  decide

theorem witness_StepRunsTheDecodedOperation :
    (Instr.erase.wellFormed = true ∧ (busyAt .erase .c0 0 0 0).busy = true ∧
      ((busyAt .erase .c0 0 0 0).stalled && (busyAt .erase .c0 0 0 0).seq.calls) = false ∧
      decode (busyAt .erase .c0 0 0 0).opc = .op .erase ∧ (busyAt .erase .c0 0 0 0).script = [] ∧
      (withScript (busyAt .erase .c0 0 0 0) [.await]).script = .await :: [] ∧
      (withScript (busyAt .erase .c0 0 0 0) [.letStep]).script = .letStep :: []) ∧
    ((withScript State.reset [.writeReg 0 3]).busy = false ∧
      (withScript State.reset [.writeReg 0 3]).script = .writeReg 0 3 :: [] ∧
      decode ((3 : Word).extractLsb' 0 8) = .op .erase) := by decide

theorem witness_UnreturnedCallIsStuck :
    let s : State := { busyAt .rdfblk .byl 0 1 0 with stalled := true }
    s.busy = true ∧ s.stalled = true ∧ s.seq.calls = true ∧ s.script = [] ∧
      (after (step (withScript s [.readReg 2])) (fun t => t.addr) = some 0) ∧
      (withScript s [.await]).script = .await :: [] ∧ (withScript s [.assertReset]).script = .assertReset :: [] := by
  decide

theorem witness_IssueOfEveryOperation : (idleAt 0 0 0).busy = false := rfl

theorem witness_HandshakeSteps :
    (∀ l ∈ [Label.h0, .h1, .h2, .h4, .h5, .h6, .h7, .hr, .h8],
      (busyAt .handshake l 0 0 0).busy = true ∧ (busyAt .handshake l 0 0 0).seq = l) ∧
    (let s : State := { busyAt .handshake .h3 0 0 0 with att := 9 }
     s.busy = true ∧ s.seq = .h3 ∧ s.att.toNat < s.cfg.retryBound) ∧
    (let s : State := { busyAt .handshake .h3 0 0 0 with att := 10 }
     s.busy = true ∧ s.seq = .h3 ∧ s.cfg.retryBound ≤ s.att.toNat) := by decide

theorem witness_ResetMcuSteps :
    ∀ l ∈ [Label.x0, .xr, .x1], (busyAt .reset l 0 0 0).busy = true ∧ (busyAt .reset l 0 0 0).seq = l := by decide

theorem witness_CommandPhaseSteps :
    (∀ l ∈ [Label.c0, .c1, .c2, .c3, .c4], (busyAt .rdflash l 0x1FFF 0 0).busy = true ∧
      (busyAt .rdflash l 0x1FFF 0 0).seq = l ∧
      (.rdflash, 0x06, [0x1F, 0xFF]) ∈ commandTable (busyAt .rdflash l 0x1FFF 0 0)) ∧
    (∀ l ∈ [Label.c0, .c1, .c4], (busyAt .erase l 0 0 0).busy = true ∧ (busyAt .erase l 0 0 0).seq = l ∧
      (.erase, 0x03, []) ∈ commandTable (busyAt .erase l 0 0 0)) ∧
    ((.rdcblk, 0x09, [0x01]) ∈ commandTable { busyAt .rdcblk .c2 0x0100 2 0 with idx := 1 }) := by decide

theorem witness_DataWriteSteps :
    ∀ l ∈ [Label.c4, .d0, .d1, .d2], (busyAt .wrflash l 0 0 0).busy = true ∧ (busyAt .wrflash l 0 0 0).seq = l ∧
      Instr.wrflash ∈ writeOps := by decide

theorem witness_DataReadSteps :
    ∀ l ∈ [Label.c4, .d0, .d1, .d2], (busyAt .rdflash l 0 0 0).busy = true ∧ (busyAt .rdflash l 0 0 0).seq = l ∧
      Instr.rdflash ∈ readOps := by decide

theorem witness_DataPhaseEnds :
    ((busyAt .wrcfg .d2 0 0 0).busy = true ∧ (busyAt .wrcfg .d2 0 0 0).seq = .d2 ∧
      (busyAt .wrcfg .d2 0 0 0).pass = false) ∧
    (let s : State := { busyAt .wrcblk .d2 0 1 0 with pass := true }
     s.busy = true ∧ s.seq = .d2 ∧ s.pass = true) := by decide

theorem witness_BlockCheckStep :
    (let s := busyAt .rdfblk .bchk 0x1FFF 2 0
     s.busy = true ∧ s.seq = .bchk ∧ s.cfg.flashSize < s.addr.toNat + s.len.toNat ∧ s.cfg.blockRangeCheck = true) ∧
    (let s := unchecked (busyAt .rdfblk .bchk 0x1FFF 2 0)
     s.busy = true ∧ s.seq = .bchk ∧ s.cfg.flashSize < s.addr.toNat + s.len.toNat ∧ s.cfg.blockRangeCheck = false) ∧
    (let s := busyAt .rdfblk .bchk 0x2000 0 0
     s.busy = true ∧ s.seq = .bchk ∧ s.addr.toNat + s.len.toNat ≤ s.cfg.flashSize ∧ s.len = 0) ∧
    (let s := busyAt .wrcblk .bchk 0x01FE 1 0
     s.busy = true ∧ s.seq = .bchk ∧ (s.addr.extractLsb' 0 8).toNat + s.len.toNat ≤ s.cfg.cfgSize ∧ s.len ≠ 0) := by
  decide

theorem witness_BlockBufferSteps :
    (let s : State := { busyAt .wrfblk .bld 0 1 0 with buf := [(0, 0x42)] }
     s.busy = true ∧ s.seq = .bld ∧ s.buf.read s.idx.toNat = some 0x42) ∧
    ((busyAt .wrcblk .bld 0 1 0).busy = true ∧ (busyAt .wrcblk .bld 0 1 0).seq = .bld ∧
      (busyAt .wrcblk .bld 0 1 0).buf.read (busyAt .wrcblk .bld 0 1 0).idx.toNat = none) ∧
    (∀ l ∈ [Label.bst, .byl], (busyAt .rdcblk l 0 1 0).busy = true ∧ (busyAt .rdcblk l 0 1 0).seq = l) := by decide

theorem witness_BlockNextStep :
    (let s : State := { busyAt .rdfblk .bnx 0 2 0 with idx := 0 }
     s.busy = true ∧ s.seq = .bnx ∧ s.cfg.blockLatch = false ∧ s.idx < s.len ∧ s.idx + 1 < s.len) ∧
    (let s : State := { busyAt .rdfblk .bnx 0 2 0 with idx := 1 }
     s.busy = true ∧ s.seq = .bnx ∧ s.cfg.blockLatch = false ∧ s.idx < s.len ∧ s.idx + 1 = s.len) := by decide

theorem witness_SingleRunsFromIssueToFinish :
    (idleAt 0xFFFF 0 0x42).busy = false ∧ (idleAt 0x00FF 0 0xA5).busy = false := ⟨rfl, rfl⟩

theorem witness_HandshakeAcknowledgedAtAttempt_first :
    let s : State := { idleAt 0 0 0 with acks := [false, true] }
    s.busy = false ∧ s.cfg.retryBound ≤ 15 ∧ 1 ≤ 1 ∧ 1 ≤ s.cfg.retryBound ∧
      (∀ j, 1 ≤ j → j < 1 → s.ackAt j = false) ∧ s.ackAt 1 = true :=
  ⟨rfl, by decide, by decide, by decide, fun _ _ _ => by omega, rfl⟩

theorem witness_HandshakeAcknowledgedAtAttempt_tenth :
    let s : State := { idleAt 0 0 0 with acks := List.replicate 10 false ++ [true] }
    s.busy = false ∧ s.cfg.retryBound ≤ 15 ∧ 1 ≤ 10 ∧ 10 ≤ s.cfg.retryBound ∧
      (∀ j, 1 ≤ j → j < 10 → s.ackAt j = false) ∧ s.ackAt 10 = true :=
  ⟨rfl, by decide, by decide, by decide, fun j _ _ => by interval_cases j <;> rfl, rfl⟩

theorem witness_HandshakeExhausted :
    let s : State := { idleAt 0 0 0 with acks := List.replicate 11 false }
    s.busy = false ∧ 1 ≤ s.cfg.retryBound ∧ s.cfg.retryBound ≤ 15 ∧
      ∀ j, 1 ≤ j → j ≤ s.cfg.retryBound → s.ackAt j = false := by
  refine ⟨rfl, by decide, by decide, fun j h1 h2 => ?_⟩
  have h3 : j ≤ 10 := h2
  interval_cases j <;> rfl

/-- The hypotheses of RdfblkFromIssueToFinish and WrfblkFromIssueToFinish, up to the last byte of the space. -/
theorem witness_FlashBlocksFromIssueToFinish :
    let s := idleAt 0x1FFE 2 0
    s.busy = false ∧ s.cfg.blockLatch = false ∧ s.len.toNat = 2 ∧ 1 ≤ 2 ∧ s.addr.toNat + 2 ≤ s.cfg.flashSize := by
  decide

/-- The hypotheses of RdcblkFromIssueToFinish and WrcblkFromIssueToFinish, the same. -/
theorem witness_ConfigBlocksFromIssueToFinish :
    let s := idleAt 0x01FD 2 0
    s.busy = false ∧ s.cfg.blockLatch = false ∧ s.len.toNat = 2 ∧ 1 ≤ 2 ∧
      (s.addr.extractLsb' 0 8).toNat + 2 ≤ s.cfg.cfgSize := by decide

theorem witness_BlockRangeAndZeroLength :
    (let s := idleAt 0xFFFF 0xFFFF 0
     s.busy = false ∧ s.cfg.flashSize < s.addr.toNat + s.len.toNat ∧ s.cfg.blockRangeCheck = true) ∧
    (let s := unchecked (idleAt 0xFFFF 0xFFFF 0)
     s.busy = false ∧ s.cfg.flashSize < s.addr.toNat + s.len.toNat ∧ s.cfg.blockRangeCheck = false) ∧
    (let s := idleAt 0x2000 0 0
     s.busy = false ∧ s.addr.toNat + s.len.toNat ≤ s.cfg.flashSize ∧ s.len = 0) ∧
    (let s := idleAt 0x00FF 1 0
     s.busy = false ∧ s.cfg.cfgSize < (s.addr.extractLsb' 0 8).toNat + s.len.toNat) := by decide

theorem witness_EveryOperationTerminates :
    let s := withScript (idleAt 0 3 0) [.writeReg 0 ((encode .rdcblk).setWidth 16)]
    s.busy = false ∧ s.stalled = false ∧ s.cfg.retryBound ≤ 15 ∧
      (rangeFails .rdcblk s = true → s.cfg.blockRangeCheck = true) ∧
      s.script = [.writeReg 0 ((encode .rdcblk).setWidth 16)] := by decide

/-- A state inside a block read, its first transaction open. -/
def midBlock : State :=
  { busyAt .rdfblk .c1 0x0100 2 0 with trace := [.start 0x7E .write true], buf := [(3, 0x55)] }

theorem midBlock_decode {i : Instr} (h : decode midBlock.opc = .op i) : i = .rdfblk := by
  have e : decode midBlock.opc = .op .rdfblk := by decide
  exact Decoded.op.inj (h.symm.trans e)

/-- The control invariant holds of a state other than reset. -/
theorem midBlock_inv : Inv midBlock where
  idle_iff := by decide
  at_step := fun _ => ⟨.rdfblk, by decide⟩
  res_none := fun _ => rfl
  none_fresh := by decide
  unverified := by decide
  retrying_iff := by decide
  att_le := by decide
  att_zero := by decide
  att_lt := by decide
  idx_zero := by decide
  request_reads := by decide
  in_block := by
    intro i _ h _ _
    cases midBlock_decode h
    decide
  buf_wf := by decide
  cfg_wf := by decide

theorem witness_StepKeepsControlInvariant : Inv midBlock ∧ ∃ t, step midBlock = .next t := ⟨midBlock_inv, _, rfl⟩

/-- The same with moves of the host to come. -/
theorem midBlock_inv_script (ms : List Move) : Inv (withScript midBlock ms) :=
  { midBlock_inv with in_block := midBlock_inv.in_block }

theorem witness_StepKeepsFraming :
    (Inv midBlock ∧ Framed midBlock ∧ (∃ t, step midBlock = .next t) ∧
      ∀ rest, midBlock.script ≠ .assertReset :: rest) ∧
    (let s := withScript midBlock [.assertReset]
     Inv s ∧ Framed s ∧ (∃ t, step s = .next t) ∧ openAt s ≠ none ∧ s.script = .assertReset :: []) :=
  ⟨⟨midBlock_inv, by unfold Framed; decide, ⟨_, rfl⟩, by simp [midBlock, busyAt, idleAt, State.reset]⟩,
    midBlock_inv_script _, by unfold Framed; decide, ⟨_, rfl⟩, by decide, rfl⟩

theorem witness_StepEmitsAllowedValues :
    midBlock.trace.all (allowedEvent midBlock.cfg) = true ∧ ∃ t, step midBlock = .next t := ⟨by decide, _, rfl⟩

theorem witness_StepKeepsBufferCanonical :
    let s : State := { busyAt .rdfblk .bst 0 2 0x11 with buf := [(3, 0x55)] }
    s.buf.wf = true ∧ ∃ t, step s = .next t := ⟨by decide, _, rfl⟩

/-- The control invariant holds of an idle state in which the model refuses reserved opcodes. -/
theorem strictIdle_inv (ms : List Move) : Inv (withScript (strict (idleAt 0 0 0)) ms) where
  idle_iff := by simp [withScript, strict, idleAt, State.reset]
  at_step := fun h => nomatch h
  res_none := fun h => nomatch h
  none_fresh := fun _ _ => rfl
  unverified := fun h => nomatch h
  retrying_iff := by simp [withScript, strict, idleAt, State.reset, handshakeUnderWay]
  att_le := Nat.zero_le _
  att_zero := fun _ => rfl
  att_lt := fun h => nomatch h
  idx_zero := fun _ => rfl
  in_block := fun _ h => nomatch h
  request_reads := fun h => nomatch h
  buf_wf := rfl
  cfg_wf := midBlock_inv.cfg_wf

/-- The control invariant holds of a block before its range check, the range failing unchecked (D13). -/
theorem uncheckedBlock_inv : Inv (unchecked (busyAt .rdfblk .bchk 0x2000 1 0)) where
  idle_iff := by decide
  at_step := fun _ => ⟨.rdfblk, by decide⟩
  res_none := fun _ => rfl
  none_fresh := by decide
  unverified := by decide
  retrying_iff := by decide
  att_le := by decide
  att_zero := by decide
  att_lt := by decide
  idx_zero := fun _ => rfl
  in_block := fun _ _ _ _ h => absurd rfl h
  request_reads := by decide
  buf_wf := rfl
  cfg_wf := by decide

theorem witness_InvariantStatesNeverFault :
    (Inv (withScript midBlock [.readBuf 0]) ∧
      step (withScript midBlock [.readBuf 0]) = .refused .bufferTouchedWhileBusy) ∧
    (Inv (withScript midBlock [.writeReg 2 7]) ∧
      step (withScript midBlock [.writeReg 2 7]) = .refused .registerWrittenWhileBusy) ∧
    (let s := withScript (strict (idleAt 0 0 0)) [.writeReg 0 7]
     Inv s ∧ step s = .refused .reservedOpcodeWritten) ∧
    (let s := unchecked (busyAt .rdfblk .bchk 0x2000 1 0)
     Inv s ∧ step s = .refused .blockOutOfRange) :=
  ⟨⟨midBlock_inv_script _, rfl⟩,
    ⟨midBlock_inv_script _, rfl⟩,
    ⟨strictIdle_inv _, rfl⟩, uncheckedBlock_inv, rfl⟩

theorem witness_OperationsNeverWriteOperands :
    (∃ t, exec .wrcblk (busyAt .wrcblk .bld 0 1 0) = .next t) ∧ ∃ t, exec .wrcblk (idleAt 0 1 0) = .next t :=
  ⟨⟨_, rfl⟩, _, rfl⟩

theorem witness_DataWrittenOnlyByReadAndLoad :
    (∃ t, exec .rdcfg (busyAt .rdcfg .d1 0 0 0) = .next t) ∧ (∃ t, exec .wrfblk (busyAt .wrfblk .bld 0 1 0) = .next t) ∧
    ∃ t, exec .wrflash (busyAt .wrflash .d1 0 0 0) = .next t := ⟨⟨_, rfl⟩, ⟨_, rfl⟩, _, rfl⟩

theorem witness_FlagAndCounterWriters :
    (∃ t, exec .handshake (busyAt .handshake .h2 0 0 0) = .next t) ∧
    (∃ t, exec .reset (busyAt .reset .x0 0 0 0) = .next t) ∧
    (∃ t, exec .rdflash (busyAt .rdflash .c0 0 0 0) = .next t) ∧
    (∃ t, exec .wrcblk (busyAt .wrcblk .bnx 0 1 0) = .next t) ∧
    ((busyAt .rdcblk .bnx 0 2 0).busy = true ∧ isBlock .rdcblk = true ∧ (busyAt .rdcblk .bnx 0 2 0).pass = false ∧
      ∃ t, exec .rdcblk (busyAt .rdcblk .bnx 0 2 0) = .next t) :=
  ⟨⟨_, rfl⟩, ⟨_, rfl⟩, ⟨_, rfl⟩, ⟨_, rfl⟩, rfl, rfl, rfl, _, rfl⟩

theorem witness_BufferWrittenOnlyAtIndex :
    (∃ t, exec .rdcblk (busyAt .rdcblk .bst 0 1 7) = .next t) ∧ ∃ t, exec .rdcblk (busyAt .rdcblk .byl 0 1 7) = .next t :=
  ⟨⟨_, rfl⟩, _, rfl⟩

theorem witness_OneCallPerStep :
    ((∃ t, exec .rdcblk (busyAt .rdcblk .byl 0 1 0) = .next t) ∧ Label.calls .byl = true) ∧
    ((∃ t, exec .rdcblk (busyAt .rdcblk .bnx 0 1 0) = .next t) ∧ Label.calls .bnx = false) ∧
    ∃ t, step (withScript midBlock [.assertReset]) = .next t := ⟨⟨⟨_, rfl⟩, rfl⟩, ⟨⟨_, rfl⟩, rfl⟩, _, rfl⟩

theorem witness_BusyChangesOnlyByIssueFinishReset :
    (let s := withScript (idleAt 0 0 0) [.writeReg 0 3]
     s.busy = false ∧ ∃ t, step s = .next t ∧ t.busy = true) ∧
    (let s := busyAt .erase .c4 0 0 0
     s.busy = true ∧ ∃ t, step s = .next t ∧ t.busy = false) ∧
    (let s := withScript midBlock [.assertReset]
     s.busy = true ∧ ∃ t, step s = .next t ∧ t.busy = false) :=
  ⟨⟨rfl, _, rfl, rfl⟩, ⟨rfl, _, rfl, rfl⟩, ⟨rfl, _, rfl, rfl⟩⟩

theorem witness_NackChangesOnlyAcc :
    (let s : State := { busyAt .erase .c0 0 0 0 with acks := [false] }
     s.busy = true ∧ (countedClass .erase s.seq ≠ none ∧ s.ackAt 0 = false) ∧ ∃ t, exec .erase s = .next t) ∧
    (let s : State := { busyAt .wrcblk .d1 0 2 0 with acks := [false] }
     s.busy = true ∧ (countedClass .wrcblk s.seq ≠ none ∧ s.ackAt 0 = false) ∧ ∃ t, exec .wrcblk s = .next t) :=
  ⟨⟨rfl, by decide, _, rfl⟩, ⟨rfl, by decide, _, rfl⟩⟩

theorem witness_AnswersNeverChangeThePath :
    let s : State := { busyAt .rdflash .d2 0 0 1 with acc := true }
    let s' : State := { busyAt .rdflash .d2 0 0 2 with acc := false, acks := [false] }
    SamePath s s' ∧ s.seq ≠ .h2 ∧ ∃ t, exec .rdflash s = .next t :=
  ⟨⟨rfl, rfl, rfl, rfl, rfl, rfl, rfl, rfl, rfl⟩, by decide, _, rfl⟩

theorem witness_HandshakeStateGatesNothing :
    (∃ t, exec .wrflash (idleAt 0 0 0) = .next t) ∧ ∃ t, exec .handshake (busyAt .handshake .h8 0 0 0) = .next t :=
  ⟨⟨_, rfl⟩, _, rfl⟩

theorem witness_ResultsThatCanBeReported :
    (let s : State := { busyAt .rdfblk .d0 0 2 0 with acks := [false] }
     s.busy = true ∧ s.acc = true ∧ ∃ t, exec .rdfblk s = .next t ∧ t.acc = false) ∧
    (let s := busyAt .reset .x1 0 0 0
     s.busy = true ∧ ∃ t, exec .reset s = .next t ∧ t.busy = false) ∧
    (let s : State := { busyAt .handshake .h3 0 0 0 with att := 10 }
     s.busy = true ∧ ∃ t, exec .handshake s = .next t ∧ t.busy = false ∧ t.res = .fail) ∧
    (let s := busyAt .handshake .h8 0 0 0
     s.busy = true ∧ ∃ t, exec .handshake s = .next t ∧ t.busy = false ∧ t.res = .ok) ∧
    (let s := busyAt .rdcblk .bchk 0x00FF 1 0
     s.busy = true ∧ isBlock .rdcblk = true ∧ s.seq = .bchk ∧ failureAt .rdcblk s = some .range ∧
       ∃ t, exec .rdcblk s = .next t ∧ t.busy = false) ∧
    (let s := busyAt .rdcblk .bchk 0x00FF 0 0
     s.busy = true ∧ isBlock .rdcblk = true ∧ s.seq = .bchk ∧ failureAt .rdcblk s = none ∧
       ∃ t, exec .rdcblk s = .next t ∧ t.busy = false) ∧
    (let s := busyAt .erase .c4 0 0 0
     s.busy = true ∧ s.seq ≠ .bchk ∧ ∃ t, exec .erase s = .next t ∧ t.busy = false) :=
  ⟨⟨rfl, rfl, _, rfl, rfl⟩, ⟨rfl, _, rfl, rfl⟩, ⟨rfl, _, rfl, rfl, rfl⟩, ⟨rfl, _, rfl, rfl, rfl⟩,
    ⟨rfl, rfl, rfl, by decide, _, rfl, rfl⟩, ⟨rfl, rfl, rfl, by decide, _, rfl, rfl⟩, ⟨rfl, by decide, _, rfl, rfl⟩⟩

theorem witness_CallsBelongToTheirOperations :
    (busyAt .reset .x0 0 0 0).cfg = Config.default ∧
    ∃ t e, exec .reset (busyAt .reset .x0 0 0 0) = .next t ∧ t.trace = (busyAt .reset .x0 0 0 0).trace ++ [e] :=
  ⟨rfl, _, _, rfl, rfl⟩

theorem witness_RdtypeIsRdcfgOfTheOffset :
    (idleAt 0x1200 0 0).busy = false ∧ (idleAt 0x1200 0 0).addr.extractLsb' 0 8 = (idleAt 0x1200 0 0).cfg.chiptypeOffset := by
  decide

end Sys2Proof.Tests
end

section
/-! The host port: what the step of a host read and of a host write is, and that no register beyond 4 exists (R29, R30). -/

namespace Sys2Proof.Machine

/-- A move of the host to come is the step (R265). -/
theorem step_of_script {s : State} {m : Move} {rest : List Move} (h : s.script = m :: rest) :
    step s = takeMove m rest s := by
  simp only [step, h]

theorem step_readReg {s : State} {n : Nat} {rest : List Move} (h : s.script = .readReg n :: rest) :
    step s = .next { s with script := rest, seen := s.seen ++ [.reg n (s.hostRead n)] } :=
  step_of_script h

theorem step_writeReg {s : State} {n : Nat} {v : Word} {rest : List Move} (h : s.script = .writeReg n v :: rest) :
    step s = hostWrite n v { s with script := rest } :=
  step_of_script h

/-- R29, the read: beyond 4 only the default case of the register select is left. -/
theorem hostRead_of_five_le (s : State) {n : Nat} (hn : 5 ≤ n) : s.hostRead n = 0 := by
  obtain ⟨k, rfl⟩ := Nat.exists_eq_add_of_le' hn
  rfl

/-- R29, the write: while busy the refusal of log entry 11 is of registers 0 to 4 alone; while idle only the default
case of the register select is left. -/
theorem hostWrite_of_five_le (s : State) {n : Nat} (hn : 5 ≤ n) (v : Word) : hostWrite n v s = .next s := by
  cases hb : s.busy with
  | true =>
    have hn4 : ¬ n ≤ 4 := by omega
    simp [hostWrite, hb, hn4]
  | false =>
    obtain ⟨k, rfl⟩ := Nat.exists_eq_add_of_le' hn
    simp [hostWrite, hb]

/-- Settles O8: the step of the move, with the read and the write of an absent register. -/
theorem absentRegisters : Obligations.AbsentRegisters := by
  intro s n v rest hn
  constructor
  · intro h
    rw [step_readReg h, hostRead_of_five_le s hn]
  · intro h
    rw [step_writeReg h, hostWrite_of_five_le _ hn]

end Sys2Proof.Machine
end

section
/-! The primitives of the ten operations that have a command phase: which primitive each sends, what ends it, and each
step of it as the step of the operation (R151 to R153). -/

namespace Sys2Proof.Machine

/-- The primitive an operation sends at this state (R154 to R159, R196 to R199); HANDSHAKE and RESET send none. -/
def State.primOf (s : State) : Instr → Option Prim
  | .handshake => none
  | .reset => none
  | .erase => some s.erasePrim
  | .rdtype => some (s.rdcfgPrim s.cfg.chiptypeOffset)
  | .wrflash => some (s.wrflashPrim s.addr)
  | .rdflash => some (s.rdflashPrim s.addr)
  | .wrcfg => some (s.wrcfgPrim (lowByte s.addr))
  | .rdcfg => some (s.rdcfgPrim (lowByte s.addr))
  | .wrfblk => some (s.wrflashPrim s.blockFlashAddr)
  | .rdfblk => some (s.rdflashPrim s.blockFlashAddr)
  | .wrcblk => some (s.wrcfgPrim s.blockCfgAddr)
  | .rdcblk => some (s.rdcfgPrim s.blockCfgAddr)

/-- What the last step of an operation's primitive does besides the stop (R157, R162, R190). -/
def primEnd : Instr → State → State
  | .wrcfg => doubled State.finishByAcc
  | .wrcblk => doubled thenNext
  | .wrfblk => thenNext
  | .rdfblk => thenStore
  | .rdcblk => thenStore
  | _ => State.finishByAcc

section PrimStep
variable {s t : State} {r : Bool} {p : Prim} {done : State → State}

/-- A block read's own labels are none of its primitive's. -/
theorem blockReadStep_of_primStep (h : primStep p done s = some t) : blockReadStep r (primStep p done) s = some t := by
  unfold blockReadStep
  split
  case h_5 => exact h
  all_goals next hs => simp [primStep, hs] at h

/-- A block write's own labels are none of its primitive's. -/
theorem blockWriteStep_of_primStep (h : primStep p done s = some t) :
    blockWriteStep r (primStep p done) s = some t := by
  unfold blockWriteStep
  split
  case h_4 => exact h
  all_goals next hs => simp [primStep, hs] at h

/-- A step of the operation's primitive is a step of its micro-program. -/
theorem microOf_of_primStep {i : Instr} (hp : s.primOf i = some p) (h : primStep p (primEnd i) s = some t) :
    microOf i s = some t := by
  cases i <;> cases hp
  case wrfblk | wrcblk => exact blockWriteStep_of_primStep h
  case rdfblk | rdcblk => exact blockReadStep_of_primStep h
  all_goals exact h

/-- A step of the operation's primitive is the operation's step. -/
theorem exec_of_primStep {i : Instr} (hp : s.primOf i = some p) (hb : s.busy = true)
    (h : primStep p (primEnd i) s = some t) : exec i s = .next t :=
  exec_of_micro hb (fun hs => by simp [primStep, hs] at h) (microOf_of_primStep hp h)

end PrimStep

/-! ## One rule per step -/

section Rules
variable {s : State} {i : Instr} {p : Prim} {b c d : Byte} {bs : List Byte}

theorem exec_c0 (hp : s.primOf i = some p) (hb : s.busy = true) (hs : s.seq = .c0) :
    exec i s = .next ((s.countedStart s.cfg.addrCmd .write).goto .c1) :=
  exec_of_primStep hp hb (by simp [primStep, hs])

theorem exec_c1 (hp : s.primOf i = some p) (hb : s.busy = true) (hs : s.seq = .c1) :
    exec i s = .next ((s.countedWrite p.cmd).goto (if p.addrBytes = [] then .c4 else .c2)) :=
  exec_of_primStep hp hb (by simp [primStep, hs, Prim.afterCmd])

theorem exec_c2 (hp : s.primOf i = some p) (ha : p.addrBytes = b :: bs) (hb : s.busy = true) (hs : s.seq = .c2) :
    exec i s = .next ((s.countedWrite b).goto (if bs = [] then .c4 else .c3)) :=
  exec_of_primStep hp hb (by cases bs <;> simp [primStep, hs, ha])

theorem exec_c3 (hp : s.primOf i = some p) (ha : p.addrBytes = b :: c :: bs) (hb : s.busy = true)
    (hs : s.seq = .c3) : exec i s = .next ((s.countedWrite c).goto .c4) :=
  exec_of_primStep hp hb (by simp [primStep, hs, ha])

theorem exec_c4 (hp : s.primOf i = some p) (hd : p.data ≠ .none) (hb : s.busy = true) (hs : s.seq = .c4) :
    exec i s = .next (s.stopCall.goto .d0) :=
  exec_of_primStep hp hb (by cases h : p.data <;> simp_all [primStep])

theorem exec_c4_end (hp : s.primOf i = some p) (hd : p.data = .none) (hb : s.busy = true) (hs : s.seq = .c4) :
    exec i s = .next (primEnd i s.stopCall) :=
  exec_of_primStep hp hb (by simp [primStep, hs, hd])

theorem exec_d0_read (hp : s.primOf i = some p) (hd : p.data = .read) (hb : s.busy = true) (hs : s.seq = .d0) :
    exec i s = .next ((s.countedStart s.cfg.addrData .read).goto .d1) :=
  exec_of_primStep hp hb (by simp [primStep, hs, hd])

theorem exec_d0_write (hp : s.primOf i = some p) (hd : p.data = .write d) (hb : s.busy = true) (hs : s.seq = .d0) :
    exec i s = .next ((s.countedStart s.cfg.addrData .write).goto .d1) :=
  exec_of_primStep hp hb (by simp [primStep, hs, hd])

theorem exec_d1_read (hp : s.primOf i = some p) (hd : p.data = .read) (hb : s.busy = true) (hs : s.seq = .d1) :
    exec i s = .next ((s.readCall.withData (s.byteAt 0)).goto .d2) :=
  exec_of_primStep hp hb (by simp [primStep, hs, hd])

theorem exec_d1_write (hp : s.primOf i = some p) (hd : p.data = .write d) (hb : s.busy = true) (hs : s.seq = .d1) :
    exec i s = .next ((s.countedWrite d).goto .d2) :=
  exec_of_primStep hp hb (by simp [primStep, hs, hd])

theorem exec_d2 (hp : s.primOf i = some p) (hd : p.data ≠ .none) (hb : s.busy = true) (hs : s.seq = .d2) :
    exec i s = .next (primEnd i s.stopCall) :=
  exec_of_primStep hp hb (by cases h : p.data <;> simp_all [primStep])

end Rules

/-! ## The tables of the statements, and the end of a primitive -/

/-- The command table names the primitive's command byte and address bytes; ERASE alone has no data phase. -/
theorem primOf_of_commandTable {s : State} {i : Instr} {cmd : Byte} {bs : List Byte}
    (h : (i, cmd, bs) ∈ commandTable s) :
    ∃ p, s.primOf i = some p ∧ p.cmd = cmd ∧ p.addrBytes = bs ∧ (p.data = .none ↔ i = .erase) := by
  simp only [commandTable, List.mem_cons, Prod.mk.injEq, List.not_mem_nil, or_false] at h
  rcases h with ⟨rfl, rfl, rfl⟩ | ⟨rfl, rfl, rfl⟩ | ⟨rfl, rfl, rfl⟩ | ⟨rfl, rfl, rfl⟩ | ⟨rfl, rfl, rfl⟩ |
    ⟨rfl, rfl, rfl⟩ | ⟨rfl, rfl, rfl⟩ | ⟨rfl, rfl, rfl⟩ | ⟨rfl, rfl, rfl⟩ | ⟨rfl, rfl, rfl⟩ <;>
  exact ⟨_, rfl, rfl, rfl, by simp [State.erasePrim, State.rdcfgPrim, State.wrcfgPrim, State.rdflashPrim,
    State.wrflashPrim]⟩

/-- The payload of a writing operation is DATA (R152). -/
theorem primOf_of_writeOps {i : Instr} (s : State) (h : i ∈ writeOps) :
    ∃ p, s.primOf i = some p ∧ p.data = .write s.data := by
  simp only [writeOps, List.mem_cons, List.not_mem_nil, or_false] at h
  rcases h with rfl | rfl | rfl | rfl <;> exact ⟨_, rfl, rfl⟩

theorem primOf_of_readOps {i : Instr} (s : State) (h : i ∈ readOps) :
    ∃ p, s.primOf i = some p ∧ p.data = .read := by
  simp only [readOps, List.mem_cons, List.not_mem_nil, or_false] at h
  rcases h with rfl | rfl | rfl | rfl | rfl <;> exact ⟨_, rfl, rfl⟩

/-- The end of a primitive makes no call and leaves DATA and ACC. -/
theorem primEnd_frame (i : Instr) (s : State) :
    (primEnd i s).trace = s.trace ∧ (primEnd i s).data = s.data ∧ (primEnd i s).acc = s.acc := by
  cases i
  case wrcfg => rcases doubled_cases State.finishByAcc s with ⟨-, h⟩ | ⟨-, h⟩ <;> simp [primEnd, h]
  case wrcblk => rcases doubled_cases thenNext s with ⟨-, h⟩ | ⟨-, h⟩ <;> simp [primEnd, thenNext, h]
  all_goals simp [primEnd, thenNext, thenStore]

/-- The last step of a data phase: its stop, and what the end of the primitive leaves. -/
theorem exec_d2_frame {s : State} {i : Instr} {p : Prim} (hp : s.primOf i = some p) (hd : p.data ≠ .none)
    (hb : s.busy = true) (hs : s.seq = .d2) :
    ∃ t, exec i s = .next t ∧ t.trace = s.trace ++ [.stop] ∧ t.data = s.data ∧ t.acc = s.acc :=
  ⟨_, exec_d2 hp hd hb hs, primEnd_frame i s.stopCall⟩

/-! ## The statements about single steps -/

/-- Settles O21: the row of the command table is the primitive sent, and each step is its rule. -/
theorem commandPhaseSteps : Obligations.CommandPhaseSteps := by
  intro s i cmd bs hrow hb
  obtain ⟨p, hp, rfl, rfl, hd⟩ := primOf_of_commandTable hrow
  refine ⟨exec_c0 hp hb, exec_c1 hp hb, fun b r ha => exec_c2 hp ha hb, fun b c ha => exec_c3 hp ha hb, ?_, ?_⟩
  · intro hi
    exact exec_c4 hp (mt hd.mp hi) hb
  · rintro rfl
    exact exec_c4_end hp (hd.mpr rfl) hb

/-- Settles O22: the payload of the primitive sent is DATA. -/
theorem dataWriteSteps : Obligations.DataWriteSteps := by
  intro s i hi hb
  obtain ⟨p, hp, hd⟩ := primOf_of_writeOps s hi
  have hn : p.data ≠ .none := by simp [hd]
  exact ⟨exec_c4 hp hn hb, exec_d0_write hp hd hb, exec_d1_write hp hd hb, exec_d2_frame hp hn hb⟩

/-- Settles O23: the primitive sent reads. -/
theorem dataReadSteps : Obligations.DataReadSteps := by
  intro s i hi hb
  obtain ⟨p, hp, hd⟩ := primOf_of_readOps s hi
  have hn : p.data ≠ .none := by simp [hd]
  exact ⟨exec_c4 hp hn hb, exec_d0_read hp hd hb, exec_d1_read hp hd hb, exec_d2_frame hp hn hb⟩

end Sys2Proof.Machine
end

section
/-! The state after a run of calls, written as one update, and the phases of a primitive as runs: each command phase and
data phase is one transaction frame (30_encoding.md R105), whatever the answers (R150 to R153). -/

namespace Sys2Proof.Machine

/-- `n` counted steps and any stops have been made, their events `es`, and the sequencer stands at `l` (R150). -/
def State.sent (s : State) (n : Nat) (es : List Event) (l : Label) : State :=
  { s with
    acks := s.acks.drop n, ackDraws := s.ackDraws + n, acc := s.acc && s.allAcked 0 n
    trace := s.trace ++ es, seq := l }

/-- One byte has been taken from the transport into DATA (R153). -/
def State.received (s : State) : State :=
  { s with reads := s.reads.drop 1, byteDraws := s.byteDraws + 1, data := s.byteAt 0 }

section Sent
variable (s : State) (n : Nat) (es : List Event) (l : Label)

@[simp] theorem State.sent_cfg : (s.sent n es l).cfg = s.cfg := rfl
@[simp] theorem State.sent_data : (s.sent n es l).data = s.data := rfl
@[simp] theorem State.sent_busy : (s.sent n es l).busy = s.busy := rfl
@[simp] theorem State.sent_seq : (s.sent n es l).seq = l := rfl
@[simp] theorem State.sent_pass : (s.sent n es l).pass = s.pass := rfl
@[simp] theorem State.sent_byteAt (k : Nat) : (s.sent n es l).byteAt k = s.byteAt k := rfl
@[simp] theorem State.sent_ackAt (k : Nat) : (s.sent n es l).ackAt k = s.ackAt (n + k) :=
  State.ackAt_drop n rfl rfl k

@[simp] theorem State.allAcked_zero (k : Nat) : s.allAcked k 0 = true := rfl

@[simp] theorem State.allAcked_one (k : Nat) : s.allAcked k 1 = s.ackAt k := by
  simp [State.allAcked]

/-- The counted steps from `k` on are the first `m` and the next `n`. -/
theorem State.allAcked_add (k m n : Nat) : s.allAcked k (m + n) = (s.allAcked k m && s.allAcked (k + m) n) := by
  simp [State.allAcked, List.range_add, List.all_map, Function.comp_def, Nat.add_assoc]

@[simp] theorem State.sent_allAcked (k m : Nat) : (s.sent n es l).allAcked k m = s.allAcked (n + k) m := by
  simp [State.allAcked, Nat.add_assoc]

/-- Two runs of calls are one. -/
@[simp] theorem State.sent_sent (n' : Nat) (es' : List Event) (l' : Label) :
    (s.sent n es l).sent n' es' l' = s.sent (n + n') (es ++ es') l' := by
  ext1
  case acc =>
    change (s.acc && s.allAcked 0 n && (s.sent n es l).allAcked 0 n') = (s.acc && s.allAcked 0 (n + n'))
    rw [State.sent_allAcked, State.allAcked_add, Bool.and_assoc, Nat.add_comm n 0]
  all_goals simp [State.sent, Nat.add_assoc]

/-- Taking a byte commutes with calls made before. -/
@[simp] theorem State.received_sent : (s.sent n es l).received = s.received.sent n es l := rfl

/-- A counted start is one counted step. -/
theorem State.countedStart_goto (a : BusAddr) (d : Dir) :
    (s.countedStart a d).goto l = s.sent 1 [.start a d (s.ackAt 0)] l := by
  simp [State.sent, State.goto, State.counted, State.startCall, List.drop_one]

/-- A counted write is one counted step. -/
theorem State.countedWrite_goto (v : Byte) : (s.countedWrite v).goto l = s.sent 1 [.write v (s.ackAt 0)] l := by
  simp [State.sent, State.goto, State.counted, State.writeCall, List.drop_one]

/-- A stop counts nothing. -/
theorem State.stopCall_goto : s.stopCall.goto l = s.sent 0 [.stop] l := by
  simp [State.sent, State.goto, State.stopCall]

/-- The read of a data phase takes one byte and counts nothing. -/
theorem State.readCall_goto :
    (s.readCall.withData (s.byteAt 0)).goto l = s.received.sent 0 [.read false (s.byteAt 0)] l := by
  simp [State.sent, State.received, State.goto, State.withData, State.readCall, List.drop_one]

/-- A stop where the sequencer stays at its label. -/
theorem State.stopCall_of_seq {s : State} {l : Label} (h : s.seq = l) : s.stopCall = s.sent 0 [.stop] l := by
  rw [← State.stopCall_goto, ← h]; rfl

end Sent

/-- Calls change no operand of a primitive. -/
theorem State.sent_primOf {s : State} {n : Nat} {es : List Event} {l : Label} {i : Instr} {p : Prim}
    (hp : s.primOf i = some p) : (s.sent n es l).primOf i = some p := by
  cases i <;> exact hp

/-- The primitive of a reading operation does not depend on DATA. -/
theorem State.received_primOf {s : State} {i : Instr} {p : Prim} (hp : s.primOf i = some p) (hd : p.data = .read) :
    s.received.primOf i = some p := by
  cases i
  case rdtype | rdflash | rdcfg | rdfblk | rdcblk => exact hp
  all_goals cases hp <;> cases hd

/-! ## The phases -/

section Phases
variable {s : State} {i : Instr} {p : Prim} (hp : s.primOf i = some p) (hb : s.busy = true)
include hp hb

/-- The command phase up to the command byte, where address bytes follow (R151). -/
theorem runOp_command (ha : p.addrBytes ≠ []) (hs : s.seq = .c0) :
    runOp i 2 s = .next (s.sent 2 [.start s.cfg.addrCmd .write (s.ackAt 0), .write p.cmd (s.ackAt 1)] .c2) := by
  rw [runOp_succ (exec_c0 hp hb hs), State.countedStart_goto,
    runOp_succ (exec_c1 (State.sent_primOf hp) hb rfl), if_neg ha, State.countedWrite_goto]
  simp

/-- The command phase with one address byte (R151). -/
theorem runOp_commandPhase_one {a : Byte} (ha : p.addrBytes = [a]) (hd : p.data ≠ .none) (hs : s.seq = .c0) :
    runOp i 4 s = .next (s.sent 3 (frameCF1 s.cfg p.cmd a (s.ackAt 0) (s.ackAt 1) (s.ackAt 2)) .d0) := by
  have hne : p.addrBytes ≠ [] := by simp [ha]
  rw [runOp_add (n := 2) (runOp_command hp hb hne hs),
    runOp_succ (exec_c2 (State.sent_primOf hp) ha hb rfl), if_pos rfl, State.countedWrite_goto, State.sent_sent,
    runOp_succ (exec_c4 (State.sent_primOf hp) hd hb rfl), State.stopCall_goto]
  simp [frameCF1]

/-- The command phase with a flash address (R71, R151). -/
theorem runOp_commandPhase_flash {a : Word} (ha : p.addrBytes = flashAddrBytes a) (hd : p.data ≠ .none)
    (hs : s.seq = .c0) :
    runOp i 5 s =
      .next (s.sent 4 (frameCF2 s.cfg p.cmd a (s.ackAt 0) (s.ackAt 1) (s.ackAt 2) (s.ackAt 3)) .d0) := by
  have hne : p.addrBytes ≠ [] := by simp [ha, flashAddrBytes]
  rw [runOp_add (n := 3) (runOp_command hp hb hne hs),
    runOp_succ (exec_c2 (State.sent_primOf hp) ha hb rfl), if_neg (List.cons_ne_nil _ _), State.countedWrite_goto,
    State.sent_sent, runOp_succ (exec_c3 (State.sent_primOf hp) ha hb rfl), State.countedWrite_goto, State.sent_sent,
    runOp_succ (exec_c4 (State.sent_primOf hp) hd hb rfl), State.stopCall_goto]
  simp [frameCF2]

/-- The data phase of a read (R153). -/
theorem runOp_dataRead (hd : p.data = .read) (hs : s.seq = .d0) :
    runOp i 3 s = .next (primEnd i (s.received.sent 1 (frameDR s.cfg (s.ackAt 0) (s.byteAt 0)) .d2)) := by
  have hn : p.data ≠ .none := by simp [hd]
  rw [runOp_succ (exec_d0_read hp hd hb hs), State.countedStart_goto,
    runOp_succ (exec_d1_read (State.sent_primOf hp) hd hb rfl), State.readCall_goto, State.received_sent,
    State.sent_sent, runOp_succ (exec_d2 (State.sent_primOf (State.received_primOf hp hd)) hn hb rfl),
    State.stopCall_of_seq rfl]
  simp [frameDR]

/-- The data phase of a write (R152). -/
theorem runOp_dataWrite {d : Byte} (hd : p.data = .write d) (hs : s.seq = .d0) :
    runOp i 3 s = .next (primEnd i (s.sent 2 (frameDW s.cfg d (s.ackAt 0) (s.ackAt 1)) .d2)) := by
  have hn : p.data ≠ .none := by simp [hd]
  rw [runOp_succ (exec_d0_write hp hd hb hs), State.countedStart_goto,
    runOp_succ (exec_d1_write (State.sent_primOf hp) hd hb rfl), State.countedWrite_goto, State.sent_sent,
    runOp_succ (exec_d2 (State.sent_primOf hp) hn hb rfl), State.stopCall_of_seq rfl]
  simp [frameDW]

end Phases

/-! ## A whole primitive: its command phase, then its data phase -/

section Primitive
variable {s : State} {i : Instr} {p : Prim} {n m : Nat} {es : List Event} (hp : s.primOf i = some p)
  (hb : s.busy = true) (hcmd : runOp i n s = .next (s.sent m es .d0))
include hp hb hcmd

/-- After the command phase of a read, its data phase. -/
theorem runOp_primitive_read (hd : p.data = .read) :
    runOp i (n + 3) s =
      .next (primEnd i (s.received.sent (m + 1) (es ++ frameDR s.cfg (s.ackAt m) (s.byteAt 0)) .d2)) := by
  rw [runOp_add hcmd, runOp_dataRead (State.sent_primOf hp) hb hd rfl]
  simp

/-- After the command phase of a write, its data phase. -/
theorem runOp_primitive_write {d : Byte} (hd : p.data = .write d) :
    runOp i (n + 3) s =
      .next (primEnd i (s.sent (m + 2) (es ++ frameDW s.cfg d (s.ackAt m) (s.ackAt (m + 1))) .d2)) := by
  rw [runOp_add hcmd, runOp_dataWrite (State.sent_primOf hp) hb hd rfl]
  simp

end Primitive
end Sys2Proof.Machine
end

section
/-! The single operations with a data phase, from issue to finish (R155 to R159): the issue, a command phase, a data
phase, and the finish by ACC; a config write has the two phases twice. -/

namespace Sys2Proof.Machine

theorem exec_idle (i : Instr) {s : State} (h : s.busy = false) : exec i s = .next (s.issued i) := by
  rw [exec_eq, rangeGuard_idle h, operate_idle h]
  rfl

section Runs
variable {s : State} {i : Instr} {p : Prim} {n m : Nat} {es : List Event}

/-- The finish by ACC of an operation whose calls were all counted steps and stops (R162). -/
theorem finishByAcc_issued_sent (s : State) (i : Instr) (n : Nat) (es : List Event) (l : Label) :
    ((s.issued i).sent n es l).finishByAcc = s.ended i n 0 (s.allAcked 0 n) es :=
  rfl

/-- The finish by ACC of an operation that has also read one byte. -/
theorem finishByAcc_issued_received_sent (s : State) (i : Instr) (n : Nat) (es : List Event) (l : Label) :
    ((s.issued i).received.sent n es l).finishByAcc =
      { s.ended i n 1 (s.allAcked 0 n) es with data := s.byteAt 0 } :=
  rfl

/-- A single read from issue to finish, given its command phase. -/
theorem runOp_single_read (hb : s.busy = false) (hend : primEnd i = State.finishByAcc)
    (hp : (s.issued i).primOf i = some p) (hd : p.data = .read)
    (hcmd : runOp i n (s.issued i) = .next ((s.issued i).sent m es .d0)) :
    runOp i (n + 3 + 1) s =
      .next { s.ended i (m + 1) 1 (s.allAcked 0 (m + 1)) (es ++ frameDR s.cfg (s.ackAt m) (s.byteAt 0)) with
        data := s.byteAt 0 } := by
  rw [runOp_succ (exec_idle i hb), runOp_primitive_read hp rfl hcmd hd, hend, finishByAcc_issued_received_sent]
  rfl

/-- A single write, sent once, from issue to finish, given its command phase. -/
theorem runOp_single_write {d : Byte} (hb : s.busy = false) (hend : primEnd i = State.finishByAcc)
    (hp : (s.issued i).primOf i = some p) (hd : p.data = .write d)
    (hcmd : runOp i n (s.issued i) = .next ((s.issued i).sent m es .d0)) :
    runOp i (n + 3 + 1) s =
      .next (s.ended i (m + 2) 0 (s.allAcked 0 (m + 2))
        (es ++ frameDW s.cfg d (s.ackAt m) (s.ackAt (m + 1)))) := by
  rw [runOp_succ (exec_idle i hb), runOp_primitive_write hp rfl hcmd hd, hend, finishByAcc_issued_sent]
  rfl

end Runs

/-! ## The double write of a config byte -/

section DoubleWrite
variable {s : State} {i : Instr} {a : Byte}

theorem State.secondPass_primOf {p : Prim} (hp : s.primOf i = some p) : s.secondPass.primOf i = some p := by
  cases i <;> exact hp

theorem State.sent_secondPass (s : State) (n : Nat) (es : List Event) (l : Label) :
    (s.sent n es l).secondPass = s.secondPass.sent n es .c0 := rfl

theorem State.sent_wrcfgPass (s : State) (n : Nat) (es : List Event) (l : Label) (a d : Byte) (k : Nat) :
    (s.sent n es l).wrcfgPass a d k = s.wrcfgPass a d (n + k) := by
  simp [State.wrcfgPass, Nat.add_assoc]

/-- After the first pass the second begins (R157). -/
theorem doubled_first (done : State → State) (h : s.pass = false) : doubled done s = s.secondPass := by
  simp [doubled, h]

/-- After the second pass the write ends (R157). -/
theorem doubled_second (done : State → State) (h : s.pass = true) : doubled done s = done s := by
  simp [doubled, h]

/-- One pass of a config write (R157). -/
theorem runOp_wrcfgPass (hp : s.primOf i = some (s.wrcfgPrim a)) (hb : s.busy = true) (hs : s.seq = .c0) :
    runOp i 7 s = .next (primEnd i (s.sent 5 (s.wrcfgPass a s.data 0) .d2)) :=
  runOp_primitive_write hp hb (runOp_commandPhase_one hp hb rfl DataPhase.noConfusion hs) rfl

/-- Both passes of a config write, ACC carried from the first into the second (R157). -/
theorem runOp_wrcfgPass_twice {done : State → State} (hp : s.primOf i = some (s.wrcfgPrim a)) (hb : s.busy = true)
    (hs : s.seq = .c0) (hpass : s.pass = false) (hend : primEnd i = doubled done) :
    runOp i 14 s =
      .next (done (s.secondPass.sent 10 (s.wrcfgPass a s.data 0 ++ s.wrcfgPass a s.data 5) .d2)) := by
  have hfirst : runOp i 7 s = .next (s.secondPass.sent 5 (s.wrcfgPass a s.data 0) .c0) := by
    rw [runOp_wrcfgPass hp hb hs, hend, doubled_first done ((State.sent_pass _ _ _ _).trans hpass),
      State.sent_secondPass]
  rw [runOp_add (n := 7) hfirst, runOp_wrcfgPass (State.sent_primOf (State.secondPass_primOf hp)) hb rfl, hend,
    doubled_second done rfl, State.sent_wrcfgPass, State.sent_sent]
  rfl

end DoubleWrite

/-! ## The statements -/

/-- Settles O29: one address byte, then a read. -/
theorem rdcfgFromIssueToFinish : Obligations.RdcfgFromIssueToFinish := by
  intro s hb
  have hcmd := runOp_commandPhase_one (s := s.issued .rdcfg) (i := .rdcfg) rfl rfl rfl DataPhase.noConfusion rfl
  exact runOp_single_read hb rfl rfl rfl hcmd

/-- Settles O30: RDCFG's shape, the address byte a constant of the configuration. -/
theorem rdtypeFromIssueToFinish : Obligations.RdtypeFromIssueToFinish := by
  intro s hb
  have hcmd := runOp_commandPhase_one (s := s.issued .rdtype) (i := .rdtype) rfl rfl rfl DataPhase.noConfusion rfl
  exact runOp_single_read hb rfl rfl rfl hcmd

/-- Settles O31: a flash address, then a read. -/
theorem rdflashFromIssueToFinish : Obligations.RdflashFromIssueToFinish := by
  intro s hb
  have hcmd := runOp_commandPhase_flash (s := s.issued .rdflash) (i := .rdflash) rfl rfl rfl DataPhase.noConfusion rfl
  exact runOp_single_read hb rfl rfl rfl hcmd

/-- Settles O32: a flash address, then a write, once. -/
theorem wrflashFromIssueToFinish : Obligations.WrflashFromIssueToFinish := by
  intro s hb
  have hcmd := runOp_commandPhase_flash (s := s.issued .wrflash) (i := .wrflash) rfl rfl rfl DataPhase.noConfusion rfl
  exact runOp_single_write hb rfl rfl rfl hcmd

/-- Settles O33: the issue leaves PASS at 0, so the pass is made twice before the finish by ACC. -/
theorem wrcfgFromIssueToFinish : Obligations.WrcfgFromIssueToFinish := by
  intro s hb
  rw [runOp_succ (exec_idle .wrcfg hb), runOp_wrcfgPass_twice rfl rfl rfl rfl rfl]
  rfl

end Sys2Proof.Machine
end

section
/-! The step of a running operation as a relation, one constructor per row of the rules R130, R160, R151 to R153, R157
and R190 to R193; `exec_next_iff` says that it is exactly `exec`. Facts about every step are proved by cases on it. -/

namespace Sys2Proof.Machine

/-- The label at which a byte of a block begins: its load in a block write, else its command phase (R190). -/
def byteStart : Instr → Label
  | .wrfblk => .bld
  | .wrcblk => .bld
  | _ => .c0

/-- `OpStep s i t`: operation `i`, running at `s`, steps to `t`. The labels met are literals in every constructor, and a
refused step (D13) is none. -/
inductive OpStep (s : State) : Instr → State → Prop
  | h0 (hs : s.seq = .h0) :
      OpStep s .handshake (((s.startCall s.cfg.addrData s.cfg.dirPreamble).withHs .retrying).goto .h1)
  | h1 (hs : s.seq = .h1) : OpStep s .handshake (s.stopCall.goto .h2)
  | h2Acked (hs : s.seq = .h2) (ha : s.ackAt 0 = true) :
      OpStep s .handshake ((s.startCall s.cfg.addrReset s.cfg.dirHsReset).countAttempt.goto .h4)
  | h2Nacked (hs : s.seq = .h2) (ha : s.ackAt 0 = false) :
      OpStep s .handshake ((s.startCall s.cfg.addrReset s.cfg.dirHsReset).countAttempt.goto .h3)
  | h3Again (hs : s.seq = .h3) (hatt : s.att.toNat < s.cfg.retryBound) : OpStep s .handshake (s.stopCall.goto .h2)
  | h3Exhausted (hs : s.seq = .h3) (hatt : s.cfg.retryBound ≤ s.att.toNat) :
      OpStep s .handshake ((s.stopCall.withHs .failed).finish .fail)
  | h4 (hs : s.seq = .h4) : OpStep s .handshake ((s.writeCall s.cfg.hs1).goto .h5)
  | h5 (hs : s.seq = .h5) : OpStep s .handshake ((s.writeCall s.cfg.hs2).goto .h6)
  | h6 (hs : s.seq = .h6) : OpStep s .handshake (s.stopCall.goto .h7)
  | h7Reading (hs : s.seq = .h7) (hc : s.cfg.rreqReadsByte = true) :
      OpStep s .handshake ((s.startCall s.cfg.addrCmd .read).goto .hr)
  | h7 (hs : s.seq = .h7) (hc : s.cfg.rreqReadsByte = false) :
      OpStep s .handshake ((s.startCall s.cfg.addrCmd .read).goto .h8)
  | hr (hs : s.seq = .hr) : OpStep s .handshake (s.readCall.goto .h8)
  | h8 (hs : s.seq = .h8) : OpStep s .handshake ((s.stopCall.withHs .acknowledged).finish .ok)
  | x0Reading (hs : s.seq = .x0) (hc : s.cfg.rreqReadsByte = true) :
      OpStep s .reset ((s.startCall s.cfg.addrReset .read).goto .xr)
  | x0 (hs : s.seq = .x0) (hc : s.cfg.rreqReadsByte = false) :
      OpStep s .reset ((s.startCall s.cfg.addrReset .read).goto .x1)
  | xr (hs : s.seq = .xr) : OpStep s .reset (s.readCall.goto .x1)
  | x1 (hs : s.seq = .x1) : OpStep s .reset (s.stopCall.finish .unverified)
  | c0 {i cmd bs} (hs : s.seq = .c0) (hrow : (i, cmd, bs) ∈ commandTable s) :
      OpStep s i ((s.countedStart s.cfg.addrCmd .write).goto .c1)
  | c1Bare {i cmd} (hs : s.seq = .c1) (hrow : (i, cmd, []) ∈ commandTable s) :
      OpStep s i ((s.countedWrite cmd).goto .c4)
  | c1 {i cmd b bs} (hs : s.seq = .c1) (hrow : (i, cmd, b :: bs) ∈ commandTable s) :
      OpStep s i ((s.countedWrite cmd).goto .c2)
  | c2Only {i cmd b} (hs : s.seq = .c2) (hrow : (i, cmd, [b]) ∈ commandTable s) :
      OpStep s i ((s.countedWrite b).goto .c4)
  | c2 {i cmd b c bs} (hs : s.seq = .c2) (hrow : (i, cmd, b :: c :: bs) ∈ commandTable s) :
      OpStep s i ((s.countedWrite b).goto .c3)
  | c3 {i cmd b c bs} (hs : s.seq = .c3) (hrow : (i, cmd, b :: c :: bs) ∈ commandTable s) :
      OpStep s i ((s.countedWrite c).goto .c4)
  | c4 {i} (hs : s.seq = .c4) (hi : i ∈ readOps ∨ i ∈ writeOps) : OpStep s i (s.stopCall.goto .d0)
  | c4Erase (hs : s.seq = .c4) : OpStep s .erase s.stopCall.finishByAcc
  | d0Read {i} (hs : s.seq = .d0) (hi : i ∈ readOps) : OpStep s i ((s.countedStart s.cfg.addrData .read).goto .d1)
  | d0Write {i} (hs : s.seq = .d0) (hi : i ∈ writeOps) : OpStep s i ((s.countedStart s.cfg.addrData .write).goto .d1)
  | d1Read {i} (hs : s.seq = .d1) (hi : i ∈ readOps) : OpStep s i ((s.readCall.withData (s.byteAt 0)).goto .d2)
  | d1Write {i} (hs : s.seq = .d1) (hi : i ∈ writeOps) : OpStep s i ((s.countedWrite s.data).goto .d2)
  | d2Single {i} (hs : s.seq = .d2) (hi : i ∈ ([.rdtype, .rdcfg, .rdflash, .wrflash] : List Instr)) :
      OpStep s i s.stopCall.finishByAcc
  | d2First {i} (hs : s.seq = .d2) (hi : i = .wrcfg ∨ i = .wrcblk) (hpass : s.pass = false) :
      OpStep s i s.stopCall.secondPass
  | d2Wrcfg (hs : s.seq = .d2) (hpass : s.pass = true) : OpStep s .wrcfg s.stopCall.finishByAcc
  | d2Wrcblk (hs : s.seq = .d2) (hpass : s.pass = true) : OpStep s .wrcblk (s.stopCall.goto .bnx)
  | d2Wrfblk (hs : s.seq = .d2) : OpStep s .wrfblk (s.stopCall.goto .bnx)
  | d2Rdblk {i} (hs : s.seq = .d2) (hi : i = .rdfblk ∨ i = .rdcblk) : OpStep s i (s.stopCall.goto .bst)
  | bchkRange {i} (hs : s.seq = .bchk) (hi : isBlock i = true) (hr : rangeFails i s = true)
      (hc : s.cfg.blockRangeCheck = true) : OpStep s i (s.finish .fail)
  | bchkEmpty {i} (hs : s.seq = .bchk) (hi : isBlock i = true) (hr : rangeFails i s = false) (hlen : s.len = 0) :
      OpStep s i s.finishByDraw
  | bchk {i} (hs : s.seq = .bchk) (hi : isBlock i = true) (hr : rangeFails i s = false) (hlen : s.len ≠ 0) :
      OpStep s i (s.goto (byteStart i))
  | bld {i} (hs : s.seq = .bld) (hi : i = .wrfblk ∨ i = .wrcblk) :
      OpStep s i ((s.loadCall.withData s.loadedByte).goto .c0)
  | bst {i} (hs : s.seq = .bst) (hi : i = .rdfblk ∨ i = .rdcblk) : OpStep s i (s.storeCall.goto .byl)
  | byl {i} (hs : s.seq = .byl) (hi : i = .rdfblk ∨ i = .rdcblk) : OpStep s i (s.yieldCall.goto .bnx)
  | bnxAgain {i} (hs : s.seq = .bnx) (hi : isBlock i = true) (hlt : s.idx + 1 < s.len) :
      OpStep s i (s.countByte.startByte (byteStart i))
  | bnxLast {i} (hs : s.seq = .bnx) (hi : isBlock i = true) (hge : ¬ s.idx + 1 < s.len) :
      OpStep s i s.countByte.finishByAcc

/-! ## Every row is a step of `exec` -/

section ToExec
variable {s t : State} {i : Instr}

theorem exec_handshake (hb : s.busy = true) (h : handshakeStep s = some t) : exec .handshake s = .next t :=
  exec_of_micro hb (fun _ hf => by cases hf) h

theorem exec_reset (hb : s.busy = true) (h : resetMcuStep s = some t) : exec .reset s = .next t :=
  exec_of_micro hb (fun _ hf => by cases hf) h

/-- The four blocks have the steps BCHK and BNX alike, but for where a byte begins. -/
theorem microOf_bchk (hi : isBlock i = true) (hs : s.seq = .bchk) :
    microOf i s = some (blockCheck (rangeFails i s) (byteStart i) s) := by
  cases i <;> cases hi <;> simp [microOf, blockReadStep, blockWriteStep, hs, byteStart, rangeFails]

theorem microOf_bnx (hi : isBlock i = true) (hs : s.seq = .bnx) :
    microOf i s = some (blockNext (byteStart i) s) := by
  cases i <;> cases hi <;> simp [microOf, blockReadStep, blockWriteStep, hs, byteStart]

theorem exec_bchk (hb : s.busy = true) (hi : isBlock i = true) (hs : s.seq = .bchk)
    (hr : rangeFails i s = true → s.cfg.blockRangeCheck = true) :
    exec i s = .next (blockCheck (rangeFails i s) (byteStart i) s) :=
  exec_of_micro hb (fun _ => hr) (microOf_bchk hi hs)

theorem exec_bnx (hb : s.busy = true) (hi : isBlock i = true) (hs : s.seq = .bnx) :
    exec i s = .next (blockNext (byteStart i) s) :=
  exec_of_micro hb (fun hs' => by simp [hs] at hs') (microOf_bnx hi hs)

theorem exec_bld (hb : s.busy = true) (hi : i = .wrfblk ∨ i = .wrcblk) (hs : s.seq = .bld) :
    exec i s = .next ((s.loadCall.withData s.loadedByte).goto .c0) :=
  exec_of_micro hb (fun hs' => by simp [hs] at hs') (by
    rcases hi with rfl | rfl <;> simp [microOf, blockWriteStep, hs])

theorem exec_bst (hb : s.busy = true) (hi : i = .rdfblk ∨ i = .rdcblk) (hs : s.seq = .bst) :
    exec i s = .next (s.storeCall.goto .byl) :=
  exec_of_micro hb (fun hs' => by simp [hs] at hs') (by
    rcases hi with rfl | rfl <;> simp [microOf, blockReadStep, hs])

theorem exec_byl (hb : s.busy = true) (hi : i = .rdfblk ∨ i = .rdcblk) (hs : s.seq = .byl) :
    exec i s = .next (s.yieldCall.goto .bnx) :=
  exec_of_micro hb (fun hs' => by simp [hs] at hs') (by
    rcases hi with rfl | rfl <;> simp [microOf, blockReadStep, hs])

/-- An operation with a data phase sends a primitive with one. -/
theorem exists_primOf_data (s : State) (hi : i ∈ readOps ∨ i ∈ writeOps) :
    ∃ p, s.primOf i = some p ∧ p.data ≠ .none := by
  rcases hi with hi | hi
  · obtain ⟨p, hp, hd⟩ := primOf_of_readOps s hi
    exact ⟨p, hp, by simp [hd]⟩
  · obtain ⟨p, hp, hd⟩ := primOf_of_writeOps s hi
    exact ⟨p, hp, by simp [hd]⟩

/-- The last stop of a data phase (R152, R153). -/
theorem exec_d2_eq (hb : s.busy = true) (hs : s.seq = .d2) (hi : i ∈ readOps ∨ i ∈ writeOps)
    (hend : primEnd i s.stopCall = t) : exec i s = .next t := by
  obtain ⟨p, hp, hd⟩ := exists_primOf_data s hi
  rw [exec_d2 hp hd hb hs, hend]

/-- A row of the relation is a step of the operation. -/
theorem OpStep.exec_next (hb : s.busy = true) (h : OpStep s i t) : exec i s = .next t := by
  cases h with
  | h0 hs | h1 hs | h4 hs | h5 hs | h6 hs | hr hs | h8 hs =>
    exact exec_handshake hb (by simp [handshakeStep, hs])
  | h2Acked hs ha | h2Nacked hs ha => exact exec_handshake hb (by simp [handshakeStep, hs, handshakeAttempt, ha])
  | h3Again hs hatt | h3Exhausted hs hatt =>
    exact exec_handshake hb (by simp [handshakeStep, hs, handshakeNacked, hatt])
  | h7Reading hs hc | h7 hs hc => exact exec_handshake hb (by simp [handshakeStep, hs, State.afterRequest, hc])
  | x0Reading hs hc | x0 hs hc => exact exec_reset hb (by simp [resetMcuStep, hs, State.afterRequest, hc])
  | xr hs | x1 hs => exact exec_reset hb (by simp [resetMcuStep, hs])
  | c0 hs hrow =>
    obtain ⟨p, hp, -, -, -⟩ := primOf_of_commandTable hrow
    exact exec_c0 hp hb hs
  | c1Bare hs hrow | c1 hs hrow =>
    obtain ⟨p, hp, rfl, ha, -⟩ := primOf_of_commandTable hrow
    simpa [ha] using exec_c1 hp hb hs
  | c2Only hs hrow | c2 hs hrow =>
    obtain ⟨p, hp, -, ha, -⟩ := primOf_of_commandTable hrow
    simpa using exec_c2 hp ha hb hs
  | c3 hs hrow =>
    obtain ⟨p, hp, -, ha, -⟩ := primOf_of_commandTable hrow
    exact exec_c3 hp ha hb hs
  | c4 hs hi =>
    obtain ⟨p, hp, hd⟩ := exists_primOf_data s hi
    exact exec_c4 hp hd hb hs
  | c4Erase hs => exact exec_c4_end (i := .erase) rfl rfl hb hs
  | d0Read hs hi =>
    obtain ⟨p, hp, hd⟩ := primOf_of_readOps s hi
    exact exec_d0_read hp hd hb hs
  | d0Write hs hi =>
    obtain ⟨p, hp, hd⟩ := primOf_of_writeOps s hi
    exact exec_d0_write hp hd hb hs
  | d1Read hs hi =>
    obtain ⟨p, hp, hd⟩ := primOf_of_readOps s hi
    exact exec_d1_read hp hd hb hs
  | d1Write hs hi =>
    obtain ⟨p, hp, hd⟩ := primOf_of_writeOps s hi
    exact exec_d1_write hp hd hb hs
  | d2Single hs hi =>
    simp only [List.mem_cons, List.not_mem_nil, or_false] at hi
    rcases hi with rfl | rfl | rfl | rfl <;> exact exec_d2_eq hb hs (by decide) rfl
  | d2First hs hi hpass =>
    rcases hi with rfl | rfl <;> exact exec_d2_eq hb hs (by decide) (by simp [primEnd, doubled, hpass])
  | d2Wrcfg hs hpass => exact exec_d2_eq hb hs (by decide) (by simp [primEnd, doubled, hpass])
  | d2Wrcblk hs hpass => exact exec_d2_eq hb hs (by decide) (by simp [primEnd, doubled, hpass, thenNext])
  | d2Wrfblk hs => exact exec_d2_eq hb hs (by decide) rfl
  | d2Rdblk hs hi => rcases hi with rfl | rfl <;> exact exec_d2_eq hb hs (by decide) rfl
  | bchkRange hs hi hr hc => rw [exec_bchk hb hi hs (fun _ => hc), blockCheck_range _ s hr]
  | bchkEmpty hs hi hr hlen => rw [exec_bchk hb hi hs (by simp [hr]), blockCheck_zero _ hr hlen]
  | bchk hs hi hr hlen => rw [exec_bchk hb hi hs (by simp [hr]), blockCheck_first _ hr hlen]
  | bld hs hi => exact exec_bld hb hi hs
  | bst hs hi => exact exec_bst hb hi hs
  | byl hs hi => exact exec_byl hb hi hs
  | bnxAgain hs hi hlt => rw [exec_bnx hb hi hs, blockNext, if_pos hlt]
  | bnxLast hs hi hge => rw [exec_bnx hb hi hs, blockNext, if_neg hge]

end ToExec

/-! ## Every step of `exec` is a row -/

section OfExec
variable {s t : State} {i : Instr} {p : Prim}

/-- The primitive an operation sends is its row of the command table. -/
theorem commandTable_of_primOf (hp : s.primOf i = some p) : (i, p.cmd, p.addrBytes) ∈ commandTable s := by
  cases i <;> cases hp <;>
    simp [commandTable, State.erasePrim, State.rdcfgPrim, State.wrcfgPrim, State.rdflashPrim, State.wrflashPrim,
      flashAddrBytes, lowByte, highByte, State.blockFlashAddr, State.blockCfgAddr]

/-- ERASE alone has no data phase, and the payload of a write is DATA. -/
theorem data_of_primOf (hp : s.primOf i = some p) :
    (p.data = .none ∧ i = .erase) ∨ (p.data = .read ∧ i ∈ readOps) ∨ (p.data = .write s.data ∧ i ∈ writeOps) := by
  cases i <;> cases hp
  case erase => exact .inl ⟨rfl, rfl⟩
  case rdtype | rdflash | rdcfg | rdfblk | rdcblk => exact .inr (.inl ⟨rfl, by decide⟩)
  case wrflash | wrcfg | wrfblk | wrcblk => exact .inr (.inr ⟨rfl, by decide⟩)

/-- The last stop of a data phase, by the operation. -/
theorem OpStep.of_primEnd (hs : s.seq = .d2) (hi : i ∈ readOps ∨ i ∈ writeOps) :
    OpStep s i (primEnd i s.stopCall) := by
  cases i <;> first | exact absurd hi (by decide) | skip
  case rdtype | rdcfg | rdflash | wrflash => exact .d2Single hs (by decide)
  case rdfblk => exact .d2Rdblk hs (.inl rfl)
  case rdcblk => exact .d2Rdblk hs (.inr rfl)
  case wrfblk => exact .d2Wrfblk hs
  case wrcfg =>
    rcases doubled_cases State.finishByAcc s.stopCall with ⟨hpass, he⟩ | ⟨hpass, he⟩ <;> rw [primEnd, he]
    · exact .d2Wrcfg hs hpass
    · exact .d2First hs (.inl rfl) hpass
  case wrcblk =>
    rcases doubled_cases thenNext s.stopCall with ⟨hpass, he⟩ | ⟨hpass, he⟩ <;> rw [primEnd, he]
    · exact .d2Wrcblk hs hpass
    · exact .d2First hs (.inr rfl) hpass

theorem OpStep.of_primStep (hp : s.primOf i = some p) (h : primStep p (primEnd i) s = some t) : OpStep s i t := by
  have hrow := commandTable_of_primOf hp
  have hdata := data_of_primOf hp
  have hphase : p.data ≠ .none → i ∈ readOps ∨ i ∈ writeOps := fun hn =>
    hdata.elim (fun h => absurd h.1 hn) (Or.imp And.right And.right)
  have hread : p.data = .read → i ∈ readOps := fun hd => by simp_all
  have hwrite : ∀ d, p.data = .write d → d = s.data ∧ i ∈ writeOps := fun d hd => by simp_all
  rcases primStep_cases h with ⟨hs, rfl⟩ | ⟨hs, rfl⟩ | ⟨hs, b, ha, rfl⟩ | ⟨hs, b, c, r, ha, rfl⟩ |
    ⟨hs, b, c, r, ha, rfl⟩ | ⟨hs, hd, rfl⟩ | ⟨hs, hd, rfl⟩ | ⟨hs, hd, rfl⟩ | ⟨hs, ⟨d, hd⟩, rfl⟩ | ⟨hs, hd, rfl⟩ |
    ⟨hs, d, hd, rfl⟩ | ⟨hs, hd, rfl⟩
  · exact .c0 hs hrow
  · cases ha : p.addrBytes with
    | nil => simp only [Prim.afterCmd, ha]; exact .c1Bare hs (ha ▸ hrow)
    | cons b bs => simp only [Prim.afterCmd, ha]; exact .c1 hs (ha ▸ hrow)
  · exact .c2Only hs (ha ▸ hrow)
  · exact .c2 hs (ha ▸ hrow)
  · exact .c3 hs (ha ▸ hrow)
  · have hi : i = .erase := by simp_all
    subst hi; exact .c4Erase hs
  · exact .c4 hs (hphase hd)
  · exact .d0Read hs (hread hd)
  · exact .d0Write hs (hwrite d hd).2
  · exact .d1Read hs (hread hd)
  · obtain ⟨rfl, hi⟩ := hwrite d hd
    exact .d1Write hs hi
  · exact .of_primEnd hs (hphase hd)

/-- Step BCHK, where a range that fails is checked. -/
theorem OpStep.of_blockCheck (hi : isBlock i = true) (hs : s.seq = .bchk)
    (hr : rangeFails i s = true → s.cfg.blockRangeCheck = true) :
    OpStep s i (blockCheck (rangeFails i s) (byteStart i) s) := by
  rcases blockCheck_cases (rangeFails i s) (byteStart i) s with ⟨hf, he⟩ | ⟨hf, hlen, he⟩ | ⟨hf, hlen, he⟩ <;> rw [he]
  · exact .bchkRange hs hi hf (hr hf)
  · exact .bchkEmpty hs hi hf hlen
  · exact .bchk hs hi hf hlen

theorem OpStep.of_blockNext (hi : isBlock i = true) (hs : s.seq = .bnx) :
    OpStep s i (blockNext (byteStart i) s) := by
  rcases blockNext_cases (byteStart i) s with ⟨hlt, he⟩ | ⟨hge, he⟩ <;> rw [he]
  · exact .bnxAgain hs hi hlt
  · exact .bnxLast hs hi hge

theorem OpStep.of_blockReadStep (hi : i = .rdfblk ∨ i = .rdcblk) (hp : s.primOf i = some p)
    (hr : s.seq = .bchk → rangeFails i s = true → s.cfg.blockRangeCheck = true)
    (h : blockReadStep (rangeFails i s) (primStep p thenStore) s = some t) : OpStep s i t := by
  have hblock : isBlock i = true := by rcases hi with rfl | rfl <;> rfl
  have hfirst : byteStart i = .c0 := by rcases hi with rfl | rfl <;> rfl
  have hend : primEnd i = thenStore := by rcases hi with rfl | rfl <;> rfl
  rcases blockReadStep_cases h with ⟨hs, rfl⟩ | ⟨hs, rfl⟩ | ⟨hs, rfl⟩ | ⟨hs, rfl⟩ | ⟨-, -, -, -, hprim⟩
  · exact hfirst ▸ .of_blockCheck hblock hs (hr hs)
  · exact .bst hs hi
  · exact .byl hs hi
  · exact hfirst ▸ .of_blockNext hblock hs
  · exact .of_primStep hp (hend ▸ hprim)

theorem OpStep.of_blockWriteStep (hi : i = .wrfblk ∨ i = .wrcblk) (hp : s.primOf i = some p)
    (hr : s.seq = .bchk → rangeFails i s = true → s.cfg.blockRangeCheck = true)
    (h : blockWriteStep (rangeFails i s) (primStep p (primEnd i)) s = some t) : OpStep s i t := by
  have hblock : isBlock i = true := by rcases hi with rfl | rfl <;> rfl
  have hfirst : byteStart i = .bld := by rcases hi with rfl | rfl <;> rfl
  rcases blockWriteStep_cases h with ⟨hs, rfl⟩ | ⟨hs, rfl⟩ | ⟨hs, rfl⟩ | ⟨-, -, -, hprim⟩
  · exact hfirst ▸ .of_blockCheck hblock hs (hr hs)
  · exact .bld hs hi
  · exact hfirst ▸ .of_blockNext hblock hs
  · exact .of_primStep hp hprim

theorem OpStep.of_handshakeStep (h : handshakeStep s = some t) : OpStep s .handshake t := by
  rcases handshakeStep_cases h with ⟨hs, rfl⟩ | ⟨hs, rfl⟩ | ⟨hs, rfl⟩ | ⟨hs, hatt, rfl⟩ | ⟨hs, hatt, rfl⟩ |
    ⟨hs, rfl⟩ | ⟨hs, rfl⟩ | ⟨hs, rfl⟩ | ⟨hs, rfl⟩ | ⟨hs, rfl⟩ | ⟨hs, rfl⟩
  · exact .h0 hs
  · exact .h1 hs
  · cases ha : s.ackAt 0
    · exact .h2Nacked hs ha
    · exact .h2Acked hs ha
  · exact .h3Again hs hatt
  · exact .h3Exhausted hs hatt
  · exact .h4 hs
  · exact .h5 hs
  · exact .h6 hs
  · cases hc : s.cfg.rreqReadsByte <;> simp only [State.afterRequest, hc]
    · exact .h7 hs hc
    · exact .h7Reading hs hc
  · exact .hr hs
  · exact .h8 hs

theorem OpStep.of_resetMcuStep (h : resetMcuStep s = some t) : OpStep s .reset t := by
  rcases resetMcuStep_cases h with ⟨hs, rfl⟩ | ⟨hs, rfl⟩ | ⟨hs, rfl⟩
  · cases hc : s.cfg.rreqReadsByte <;> simp only [State.afterRequest, hc]
    · exact .x0 hs hc
    · exact .x0Reading hs hc
  · exact .xr hs
  · exact .x1 hs

theorem OpStep.of_micro (hr : s.seq = .bchk → rangeFails i s = true → s.cfg.blockRangeCheck = true)
    (h : microOf i s = some t) : OpStep s i t := by
  cases i
  case handshake => exact .of_handshakeStep h
  case reset => exact .of_resetMcuStep h
  case wrfblk => exact .of_blockWriteStep (.inl rfl) rfl hr h
  case wrcblk => exact .of_blockWriteStep (.inr rfl) rfl hr h
  case rdfblk => exact .of_blockReadStep (.inl rfl) rfl hr h
  case rdcblk => exact .of_blockReadStep (.inr rfl) rfl hr h
  all_goals exact .of_primStep rfl h

/-- A step of an operation is its issue while idle (R21), else a row of the relation. -/
theorem exec_next_iff :
    exec i s = .next t ↔ (s.busy = false ∧ t = s.issued i) ∨ (s.busy = true ∧ OpStep s i t) := by
  constructor
  · intro h
    rcases exec_cases h with ⟨hb, rfl⟩ | ⟨hb, hm⟩
    · exact .inl ⟨hb, rfl⟩
    · refine .inr ⟨hb, .of_micro (fun hs hf => ?_) hm⟩
      by_contra hc
      rw [exec_eq, hf, rangeGuard_refuses hb hs (by simpa using hc)] at h
      cases h
  · rintro (⟨hb, rfl⟩ | ⟨hb, h⟩)
    · exact exec_idle i hb
    · exact h.exec_next hb

end OfExec
end Sys2Proof.Machine
end

section
/-! What one step of a running operation does to the fields the control invariant speaks of (R23 to R36), each by cases on
the step, and the invariant as their sum. -/

namespace Sys2Proof.Machine

/-! ## The labels of an operation -/

/-- A byte of a block begins with its load or its command phase. -/
theorem byteStart_cases (i : Instr) : byteStart i = .bld ∨ byteStart i = .c0 := by cases i <;> simp [byteStart]

@[simp] theorem byteStart_ne {i : Instr} {l : Label} (hb : l ≠ .bld) (hc : l ≠ .c0) : byteStart i ≠ l := by
  rcases byteStart_cases i with h | h <;> simp [h, hb.symm, hc.symm]

@[simp] theorem handshakeUnderWay_byteStart (i : Instr) : handshakeUnderWay (byteStart i) = false := by
  cases i <;> rfl

theorem hasStep_byteStart {i : Instr} (hi : isBlock i = true) : hasStep i (byteStart i) = true := by
  cases i <;> cases hi <;> rfl

/-- The labels of a command phase, by the address bytes there are (R151). -/
theorem hasStep_of_row {s : State} {i : Instr} {cmd : Byte} {bs : List Byte} (hrow : (i, cmd, bs) ∈ commandTable s) :
    hasStep i .c1 = true ∧ hasStep i .c4 = true ∧ (bs ≠ [] → hasStep i .c2 = true) ∧
      (2 ≤ bs.length → hasStep i .c3 = true) := by
  obtain ⟨p, hp, rfl, rfl, -⟩ := primOf_of_commandTable hrow
  cases i <;> cases hp <;> simp [hasStep, State.erasePrim, State.rdcfgPrim, State.wrcfgPrim, State.rdflashPrim,
    State.wrflashPrim, flashAddrBytes]

/-- The labels of a data phase (R152, R153). -/
theorem hasStep_of_data {i : Instr} (hi : i ∈ readOps ∨ i ∈ writeOps) :
    hasStep i .d0 = true ∧ hasStep i .d1 = true ∧ hasStep i .d2 = true := by
  revert hi
  cases i <;> decide

/-- The bound fits ATT, so that no attempt overflows it (R32). -/
theorem att_succ_toNat {a : BitVec 4} {b : Nat} (hb : b ≤ 15) (ha : a.toNat < b) : (a + 1).toNat = a.toNat + 1 := by
  bv_omega

section Fields
variable {s t : State} {i : Instr} (h : OpStep s i t)
include h

/-! ## What every step leaves -/

theorem OpStep.cfg_eq : t.cfg = s.cfg := by cases h <;> rfl
theorem OpStep.addr_eq : t.addr = s.addr := by cases h <;> rfl
theorem OpStep.len_eq : t.len = s.len := by cases h <;> rfl
theorem OpStep.opc_eq : t.opc = s.opc := by cases h <;> rfl

/-- The range check looks at what no step writes (R191). -/
theorem OpStep.rangeFails_eq (j : Instr) : rangeFails j t = rangeFails j s := by
  cases j <;> simp [rangeFails, State.flashRangeFails, State.cfgRangeFails, h.cfg_eq, h.addr_eq, h.len_eq]

/-! ## The step pointer -/

/-- A step goes to no BCHK: only the issue does. -/
theorem OpStep.seq_ne_bchk : t.seq ≠ .bchk := by cases h <;> simp

theorem OpStep.busy_iff (hb : s.busy = true) : t.busy = false ↔ t.seq = .idle := by cases h <;> simp [hb]

theorem OpStep.hasStep_seq (hb : t.busy = true) : hasStep i t.seq = true := by
  cases h with
  | c0 _ hrow => exact (hasStep_of_row hrow).1
  | c1Bare _ hrow | c2Only _ hrow | c3 _ hrow => exact (hasStep_of_row hrow).2.1
  | c1 _ hrow => exact (hasStep_of_row hrow).2.2.1 (List.cons_ne_nil _ _)
  | c2 _ hrow => exact (hasStep_of_row hrow).2.2.2 (by simp)
  | c4 _ hi => exact (hasStep_of_data hi).1
  | d0Read _ hi => exact (hasStep_of_data (.inl hi)).2.1
  | d0Write _ hi => exact (hasStep_of_data (.inr hi)).2.1
  | d1Read _ hi => exact (hasStep_of_data (.inl hi)).2.2
  | d1Write _ hi => exact (hasStep_of_data (.inr hi)).2.2
  | bchk _ hi _ _ | bnxAgain _ hi _ => exact hasStep_byteStart hi
  | d2First _ hi _ | d2Rdblk _ hi | bld _ hi | bst _ hi | byl _ hi => rcases hi with rfl | rfl <;> rfl
  | d2Single | d2Wrcfg | c4Erase | h3Exhausted | h8 | x1 | bchkRange | bchkEmpty | bnxLast => simp at hb
  | _ => rfl

theorem OpStep.request_reads (hl : t.seq = .hr ∨ t.seq = .xr) : s.cfg.rreqReadsByte = true := by
  cases h
  case h7Reading _ hc | x0Reading _ hc => exact hc
  all_goals simp at hl

/-! ## RES and HS -/

theorem OpStep.res_eq (hb : t.busy = true) : t.res = s.res := by
  cases h <;> first | rfl | simp at hb

theorem OpStep.res_ne_none (hb : s.busy = true) (hf : t.busy = false) : t.res ≠ .none := by
  cases h <;> simp [hb] at hf ⊢

/-- UNVERIFIED is reported by RESET alone (R24, R160). -/
theorem OpStep.eq_reset (hb : s.busy = true) (hf : t.busy = false) (hr : t.res = .unverified) : i = .reset := by
  cases h
  case x1 => rfl
  all_goals simp [hb] at hf hr

/-- HS is retrying from H0 on until HANDSHAKE ends (R25, R130). -/
theorem OpStep.retrying_iff (hs : s.hs = .retrying ↔ handshakeUnderWay s.seq = true) :
    t.hs = .retrying ↔ handshakeUnderWay t.seq = true := by
  cases h <;> simp_all [handshakeUnderWay]

/-! ## ATT -/

theorem OpStep.att_le (hc : s.cfg.retryBound ≤ 15) (hlt : s.seq = .h2 → s.att.toNat < s.cfg.retryBound)
    (hle : s.att.toNat ≤ s.cfg.retryBound) : t.att.toNat ≤ s.cfg.retryBound := by
  cases h with
  | h2Acked hs | h2Nacked hs => exact (att_succ_toNat hc (hlt hs)).trans_le (hlt hs)
  | _ => exact hle

theorem OpStep.att_zero (hz : s.seq = .h0 ∨ s.seq = .h1 → s.att = 0) (hl : t.seq = .h0 ∨ t.seq = .h1) : t.att = 0 := by
  cases h with
  | h0 hs => exact hz (.inl hs)
  | _ => simp at hl

/-- H2 is reached from H1 with no attempt counted, or from H3 below the bound. -/
theorem OpStep.att_lt (hc : 1 ≤ s.cfg.retryBound) (hz : s.seq = .h0 ∨ s.seq = .h1 → s.att = 0) (hl : t.seq = .h2) :
    t.att.toNat < s.cfg.retryBound := by
  cases h with
  | h1 hs =>
    have h0 : s.att = 0 := hz (.inr hs)
    simpa [h0] using Nat.succ_le_iff.mp hc
  | h3Again _ hatt => exact hatt
  | _ => simp at hl

/-! ## IDX and the buffer -/

/-- A byte of a block is begun only below LEN (R190, R193). -/
theorem OpStep.idx_lt (hz : s.seq = .bchk → s.idx = 0) (hin : s.seq ≠ .bchk → s.idx < s.len) (hb : t.busy = true) :
    t.idx < t.len := by
  cases h with
  | bchk hs _ _ hlen =>
    have h0 : s.idx = 0 := hz hs
    simp only [State.goto_idx, State.goto_len, h0]
    bv_omega
  | bnxAgain _ _ hlt => exact hlt
  | bchkRange | bchkEmpty | bnxLast => simp at hb
  | _ => exact hin (by simp [‹s.seq = _›])

/-- Past BCHK the range has passed (R191). -/
theorem OpStep.range_passed (hin : s.seq ≠ .bchk → rangeFails i s = false) (hb : t.busy = true) :
    rangeFails i t = false := by
  rw [h.rangeFails_eq]
  cases h with
  | bchk _ _ hr => exact hr
  | bchkRange | bchkEmpty => simp at hb
  | _ => exact hin (by simp [‹s.seq = _›])

theorem OpStep.buf_wf (hw : s.buf.wf = true) : t.buf.wf = true := by
  cases h
  case bst => exact State.storeCall_buf_wf hw
  all_goals exact hw

end Fields
end Sys2Proof.Machine
end

section
/-! The control invariant, kept by every step of the machine: by a step of the running operation, by an issue, by a host
move that runs nothing, and by the reset input. -/

namespace Sys2Proof.Machine

/-- The opcode of an operation decodes to it (R102). -/
@[simp] theorem decode_encode (i : Instr) : decode (encode i) = .op i := by cases i <;> decide

theorem Config.retry_of_wf {c : Config} (h : c.wf = true) : 1 ≤ c.retryBound ∧ c.retryBound ≤ 15 := by
  simp only [Config.wf, Config.retryOk, Bool.and_eq_true, decide_eq_true_eq] at h
  exact h.1.1.2

/-- The bytes after an acknowledged attempt are written in a write transaction (R133). -/
theorem Config.dir_of_wf {c : Config} (h : c.wf = true) : c.dirHsReset = .write := by
  simp only [Config.wf, Config.dirOk, Bool.and_eq_true, beq_iff_eq] at h
  exact h.2

section Inv
variable {s t : State} {i : Instr} (hI : Inv s)
include hI

/-- The moves to come are no part of the invariant. -/
theorem Inv.withScript (rest : List Move) : Inv { s with script := rest } :=
  { hI with in_block := hI.in_block }

theorem Inv.seq_idle (hb : s.busy = false) : s.seq = .idle := hI.idle_iff.mp hb

theorem Inv.hs_ne_retrying (hb : s.busy = false) : s.hs ≠ .retrying := by
  rw [Ne, hI.retrying_iff, hI.seq_idle hb]
  decide

/-- The operation a busy sequencer runs, and where it stands in it (R31). -/
theorem Inv.hasStep_seq (hb : s.busy = true) (hd : decode s.opc = .op i) : hasStep i s.seq = true := by
  obtain ⟨j, hj, hstep⟩ := hI.at_step hb
  rwa [Decoded.op.inj (hj.symm.trans hd)] at hstep

theorem Inv.opStep (hb : s.busy = true) (hd : decode s.opc = .op i) (h : OpStep s i t) : Inv t := by
  have hdt : decode t.opc = .op i := by rw [h.opc_eq, hd]
  have hcfg : t.cfg = s.cfg := h.cfg_eq
  obtain ⟨hretry, hretry'⟩ := Config.retry_of_wf hI.cfg_wf
  constructor
  case idle_iff => exact h.busy_iff hb
  case at_step => exact fun hbt => ⟨i, hdt, h.hasStep_seq hbt⟩
  case res_none => exact fun hbt => (h.res_eq hbt).trans (hI.res_none hb)
  case none_fresh => exact fun hbt hr => absurd hr (h.res_ne_none hb hbt)
  case unverified =>
    intro hr
    cases hbt : t.busy with
    | true => rw [h.res_eq hbt, hI.res_none hb] at hr; cases hr
    | false => rw [hdt, h.eq_reset hb hbt hr]
  case retrying_iff => exact h.retrying_iff hI.retrying_iff
  case att_le => exact hcfg ▸ h.att_le hretry' hI.att_lt hI.att_le
  case att_zero => exact h.att_zero hI.att_zero
  case att_lt => exact hcfg ▸ h.att_lt hretry hI.att_zero
  case idx_zero => exact fun hs => absurd hs h.seq_ne_bchk
  case in_block =>
    intro j hbt hj hblock _
    cases Decoded.op.inj (hj.symm.trans hdt)
    have hin := hI.in_block i hb hd hblock
    exact ⟨h.idx_lt hI.idx_zero (fun hs => (hin hs).1) hbt, h.range_passed (fun hs => (hin hs).2) hbt⟩
  case request_reads => exact hcfg ▸ h.request_reads
  case buf_wf => exact h.buf_wf hI.buf_wf
  case cfg_wf => exact hcfg ▸ hI.cfg_wf

theorem Inv.issued (hb : s.busy = false) (i : Instr) : Inv (s.issued i) := by
  have hhs : s.hs ≠ .retrying := hI.hs_ne_retrying hb
  constructor
  case idle_iff => exact iff_of_false nofun (by cases i <;> nofun)
  case at_step => exact fun _ => ⟨i, decode_encode i, by cases i <;> rfl⟩
  case res_none => exact fun _ => rfl
  case none_fresh => exact fun hf => nomatch hf
  case unverified => exact fun hr => nomatch hr
  case retrying_iff => exact iff_of_false hhs (by cases i <;> nofun)
  case att_le => exact Nat.zero_le _
  case att_zero => exact fun _ => rfl
  case att_lt => exact fun hs => by cases i <;> cases hs
  case idx_zero => exact fun _ => rfl
  case in_block =>
    intro j _ hj hblock hs
    cases Decoded.op.inj (hj.symm.trans (decode_encode i))
    cases i <;> first | exact absurd rfl hs | cases hblock
  case request_reads => exact fun hs => by cases i <;> rcases hs with hs | hs <;> cases hs
  case buf_wf => exact hI.buf_wf
  case cfg_wf => exact hI.cfg_wf

theorem Inv.resetInput : Inv s.resetInput where
  idle_iff := iff_of_true rfl rfl
  at_step := fun hb => nomatch hb
  res_none := fun _ => rfl
  none_fresh := fun _ _ => rfl
  unverified := fun hr => nomatch hr
  retrying_iff := by simp [handshakeUnderWay]
  att_le := Nat.zero_le _
  att_zero := fun _ => rfl
  att_lt := fun hs => nomatch hs
  idx_zero := fun _ => rfl
  in_block := fun _ hb => nomatch hb
  request_reads := fun hs => by simp at hs
  buf_wf := hI.buf_wf
  cfg_wf := hI.cfg_wf

/-- A host move that runs nothing: while busy it leaves what the invariant speaks of, while idle nearly all of the invariant
is about SEQ = IDLE. -/
theorem Inv.hostOnly (h : HostOnly s t) : Inv t := by
  obtain ⟨rest, addr, len, data, opc, res, buf, stalled, seen, rfl, hwf, hbusy, hopc⟩ := h
  cases hb : s.busy with
  | true =>
    obtain ⟨rfl, rfl, rfl, rfl, rfl, rfl⟩ := hbusy hb
    exact { hI with in_block := hI.in_block }
  | false =>
    refine { hI with
      at_step := fun hbt => ?_, res_none := fun hbt => ?_, none_fresh := fun _ hr => ?_, unverified := fun hr => ?_
      in_block := fun _ hbt => ?_, buf_wf := hwf hI.buf_wf }
    · simp [State.hostWrote, hb] at hbt
    · simp [State.hostWrote, hb] at hbt
    · rcases hopc with ⟨-, hres⟩ | ⟨hres, -⟩
      · exact hI.none_fresh hb (hres.symm.trans hr)
      · exact nomatch hres.symm.trans hr
    · rcases hopc with ⟨hop, hres⟩ | ⟨hres, -⟩
      · exact hop ▸ hI.unverified (hres.symm.trans hr)
      · exact nomatch hres.symm.trans hr
    · simp [State.hostWrote, hb] at hbt

theorem Inv.exec (hd : s.busy = true → decode s.opc = .op i) (h : exec i s = .next t) : Inv t := by
  rcases exec_next_iff.mp h with ⟨hb, rfl⟩ | ⟨hb, hstep⟩
  · exact hI.issued hb i
  · exact hI.opStep hb (hd hb) hstep

end Inv

/-- Settles O45: one case for each thing a step can do. -/
theorem stepKeepsControlInvariant : Obligations.StepKeepsControlInvariant := by
  intro s t hI h
  rcases step_cases h with ⟨i, rest, hexec, hd, -⟩ | hhost | ⟨rest, -, rfl⟩
  · exact (hI.withScript rest).exec hd hexec
  · exact hI.hostOnly hhost
  · exact (hI.withScript rest).resetInput

end Sys2Proof.Machine
end

section
/-! The framing of the trace (R68) and the transaction SEQ implies (R36), kept by every step but a reset in an open
transaction (R251). -/

namespace Sys2Proof.Machine

theorem writesByte_of_writeOps {i : Instr} (hi : i ∈ writeOps) : writesByte i = true := by
  revert hi
  cases i <;> decide

theorem writesByte_of_readOps {i : Instr} (hi : i ∈ readOps) : writesByte i = false := by
  revert hi
  cases i <;> decide

/-! ## What each event does to the open transaction (R68, R251) -/

@[simp] theorem frameNext_start (a : BusAddr) (d : Dir) (k : Bool) :
    frameNext none (.start a d k) = some (some (a, d)) := rfl
@[simp] theorem frameNext_write (a : BusAddr) (v : Byte) (k : Bool) :
    frameNext (some (a, .write)) (.write v k) = some (some (a, .write)) := rfl
@[simp] theorem frameNext_read (a : BusAddr) (m : Bool) (v : Byte) :
    frameNext (some (a, .read)) (.read m v) = some (some (a, .read)) := rfl
@[simp] theorem frameNext_stop (o : BusAddr × Dir) : frameNext (some o) .stop = some none := rfl
@[simp] theorem frameNext_yield : frameNext none .yield = some none := rfl
@[simp] theorem frameNext_bufRead (k : Word) (v : Byte) : frameNext none (.bufRead k v) = some none := rfl
@[simp] theorem frameNext_bufWrite (k : Word) (v : Byte) : frameNext none (.bufWrite k v) = some none := rfl
@[simp] theorem frameNext_resetInput (b : Bool) : frameNext none (.resetInput b) = some none := rfl
@[simp] theorem frameNext_resetInput_open (o : BusAddr × Dir) (b : Bool) :
    frameNext (some o) (.resetInput b) = none := rfl

section Framed
variable {s t : State} {i : Instr}

/-- A step that adds no event and leaves no transaction open or opens none. -/
theorem Framed.quiet (hF : Framed s) (ht : t.trace = s.trace) (ho : openAt t = openAt s) : Framed t := by
  rw [Framed, ht, ho]
  exact hF

theorem Framed.opStep (hF : Framed s) (hdir : s.cfg.dirHsReset = .write) (hd : decode s.opc = .op i)
    (h : OpStep s i t) : Framed t := by
  have hopen : frameOf s.trace = some (openAt s) := hF
  cases h with
  | bchkRange hs | bchkEmpty hs | bnxLast hs => exact hF.quiet rfl (by simp [openAt, hs])
  | bchk hs | bnxAgain hs =>
    exact hF.quiet rfl (by rcases byteStart_cases i with hl | hl <;> simp [openAt, hs, hl])
  | d0Read hs hi | d1Read hs hi =>
    simp [Framed, frameOf_snoc, hopen, openAt, hs, hd, Decoded.instr?, writesByte_of_readOps hi]
  | d0Write hs hi | d1Write hs hi =>
    simp [Framed, frameOf_snoc, hopen, openAt, hs, hd, Decoded.instr?, writesByte_of_writeOps hi]
  | _ => simp [Framed, frameOf_snoc, hopen, openAt, ‹s.seq = _›, hdir]

/-- SEQ implies an open transaction only while an operation runs (R36). -/
theorem openAt_idle (hs : s.seq = .idle) : openAt s = none := by simp [openAt, hs]

theorem Framed.exec (hI : Inv s) (hF : Framed s) (hd : s.busy = true → decode s.opc = .op i)
    (h : exec i s = .next t) : Framed t := by
  rcases exec_next_iff.mp h with ⟨hb, rfl⟩ | ⟨hb, hstep⟩
  · refine hF.quiet rfl ?_
    rw [openAt_idle (hI.seq_idle hb)]
    cases i <;> rfl
  · exact hF.opStep (Config.dir_of_wf hI.cfg_wf) (hd hb) hstep

/-- A host move that runs nothing changes OPC only while idle, where no transaction is open. -/
theorem Framed.hostOnly (hI : Inv s) (hF : Framed s) (h : HostOnly s t) : Framed t := by
  obtain ⟨rest, addr, len, data, opc, res, buf, stalled, seen, rfl, -, hbusy, -⟩ := h
  refine hF.quiet rfl ?_
  cases hb : s.busy with
  | true =>
    obtain ⟨-, -, -, rfl, -, -⟩ := hbusy hb
    rfl
  | false =>
    have hs : s.seq = .idle := hI.seq_idle hb
    simp [openAt, State.hostWrote, hs]

/-- The reset input makes no call, so it leaves well framed what had no transaction open, and nothing else (R251). -/
theorem frameOf_resetInput (hF : Framed s) (rest : List Move) :
    frameOf ({ s with script := rest }.resetInput).trace = (frameNext (openAt s) (.resetInput s.busy)) := by
  have hopen : frameOf s.trace = some (openAt s) := hF
  simp [frameOf_snoc, hopen]

/-- A run with a reset while an operation runs has no meaning (R264). -/
theorem hasMeaning_resetInput (hb : s.busy = true) (rest : List Move) :
    hasMeaning ({ s with script := rest }.resetInput).trace = false := by
  simp [hasMeaning, hb]

/-- After the reset input: framed where no transaction was open, else framed for no continuation (R251). -/
theorem Framed.resetInput (hI : Inv s) (hF : Framed s) (rest : List Move) :
    (openAt s = none → Framed { s with script := rest }.resetInput) ∧
      (openAt s ≠ none → frameOf ({ s with script := rest }.resetInput).trace = none ∧
        hasMeaning ({ s with script := rest }.resetInput).trace = false) := by
  refine ⟨fun hopen => ?_, fun hopen => ⟨?_, hasMeaning_resetInput ?_ rest⟩⟩
  · rw [Framed, frameOf_resetInput hF, hopen]
    rfl
  · obtain ⟨o, ho⟩ := Option.ne_none_iff_exists'.mp hopen
    rw [frameOf_resetInput hF, ho]
    rfl
  · by_contra hb
    exact hopen (openAt_idle (hI.seq_idle (by simpa using hb)))

end Framed

/-- Settles O46: only the reset can meet an open transaction and end no well-framed trace. -/
theorem stepKeepsFraming : Obligations.StepKeepsFraming := by
  intro s t hI hF h
  by_cases hreset : ∃ rest, s.script = .assertReset :: rest
  · obtain ⟨rest, hs⟩ := hreset
    rw [step_of_script hs] at h
    cases h
    obtain ⟨hclosed, hopen⟩ := hF.resetInput hI rest
    exact ⟨fun hno => hclosed (hno.elim id fun hn => absurd hs (hn rest)), fun ho _ => hopen ho⟩
  · have hFt : Framed t := by
      rcases step_cases h with ⟨i, rest, hexec, hd, -⟩ | hhost | ⟨rest, hs, -⟩
      · exact Framed.exec (hI.withScript rest) hF hd hexec
      · exact hF.hostOnly hI hhost
      · exact absurd ⟨rest, hs⟩ hreset
    exact ⟨fun _ => hFt, fun _ hr => absurd hr hreset⟩

end Sys2Proof.Machine
end

section
/-! What decides the path of an operation (R31, R150): the operands, the step pointer and the counters, and at H2 alone an
answer. -/

namespace Sys2Proof.Machine

/-- The state with everything a path does not look at put to these values. -/
def State.withRest (s u : State) : State :=
  { u with
    cfg := s.cfg, opc := s.opc, addr := s.addr, len := s.len, busy := s.busy, seq := s.seq, att := s.att, pass := s.pass
    idx := s.idx }

theorem SamePath.eq_withRest {s u : State} (h : SamePath s u) : u = s.withRest u := by
  obtain ⟨hcfg, hopc, haddr, hlen, hbusy, hseq, hatt, hpass, hidx⟩ := h
  ext1 <;> simp only [State.withRest, hcfg, hopc, haddr, hlen, hbusy, hseq, hatt, hpass, hidx]

/-- Every row but those of H2 has, from a state on the same path, the row of the same name. -/
theorem OpStep.withRest {s t : State} {i : Instr} (h : OpStep s i t) (hs2 : s.seq ≠ .h2) (u : State) :
    ∃ t', OpStep (s.withRest u) i t' ∧ SamePath t t' := by
  cases h with
  | h2Acked hs | h2Nacked hs => exact absurd hs hs2
  | h0 hs => exact ⟨_, .h0 hs, ⟨rfl, rfl, rfl, rfl, rfl, rfl, rfl, rfl, rfl⟩⟩
  | h1 hs => exact ⟨_, .h1 hs, ⟨rfl, rfl, rfl, rfl, rfl, rfl, rfl, rfl, rfl⟩⟩
  | h3Again hs hatt => exact ⟨_, .h3Again hs hatt, ⟨rfl, rfl, rfl, rfl, rfl, rfl, rfl, rfl, rfl⟩⟩
  | h3Exhausted hs hatt => exact ⟨_, .h3Exhausted hs hatt, ⟨rfl, rfl, rfl, rfl, rfl, rfl, rfl, rfl, rfl⟩⟩
  | h4 hs => exact ⟨_, .h4 hs, ⟨rfl, rfl, rfl, rfl, rfl, rfl, rfl, rfl, rfl⟩⟩
  | h5 hs => exact ⟨_, .h5 hs, ⟨rfl, rfl, rfl, rfl, rfl, rfl, rfl, rfl, rfl⟩⟩
  | h6 hs => exact ⟨_, .h6 hs, ⟨rfl, rfl, rfl, rfl, rfl, rfl, rfl, rfl, rfl⟩⟩
  | h7Reading hs hc => exact ⟨_, .h7Reading hs hc, ⟨rfl, rfl, rfl, rfl, rfl, rfl, rfl, rfl, rfl⟩⟩
  | h7 hs hc => exact ⟨_, .h7 hs hc, ⟨rfl, rfl, rfl, rfl, rfl, rfl, rfl, rfl, rfl⟩⟩
  | hr hs => exact ⟨_, .hr hs, ⟨rfl, rfl, rfl, rfl, rfl, rfl, rfl, rfl, rfl⟩⟩
  | h8 hs => exact ⟨_, .h8 hs, ⟨rfl, rfl, rfl, rfl, rfl, rfl, rfl, rfl, rfl⟩⟩
  | x0Reading hs hc => exact ⟨_, .x0Reading hs hc, ⟨rfl, rfl, rfl, rfl, rfl, rfl, rfl, rfl, rfl⟩⟩
  | x0 hs hc => exact ⟨_, .x0 hs hc, ⟨rfl, rfl, rfl, rfl, rfl, rfl, rfl, rfl, rfl⟩⟩
  | xr hs => exact ⟨_, .xr hs, ⟨rfl, rfl, rfl, rfl, rfl, rfl, rfl, rfl, rfl⟩⟩
  | x1 hs => exact ⟨_, .x1 hs, ⟨rfl, rfl, rfl, rfl, rfl, rfl, rfl, rfl, rfl⟩⟩
  | c0 hs hrow => exact ⟨_, .c0 hs hrow, ⟨rfl, rfl, rfl, rfl, rfl, rfl, rfl, rfl, rfl⟩⟩
  | c1Bare hs hrow => exact ⟨_, .c1Bare hs hrow, ⟨rfl, rfl, rfl, rfl, rfl, rfl, rfl, rfl, rfl⟩⟩
  | c1 hs hrow => exact ⟨_, .c1 hs hrow, ⟨rfl, rfl, rfl, rfl, rfl, rfl, rfl, rfl, rfl⟩⟩
  | c2Only hs hrow => exact ⟨_, .c2Only hs hrow, ⟨rfl, rfl, rfl, rfl, rfl, rfl, rfl, rfl, rfl⟩⟩
  | c2 hs hrow => exact ⟨_, .c2 hs hrow, ⟨rfl, rfl, rfl, rfl, rfl, rfl, rfl, rfl, rfl⟩⟩
  | c3 hs hrow => exact ⟨_, .c3 hs hrow, ⟨rfl, rfl, rfl, rfl, rfl, rfl, rfl, rfl, rfl⟩⟩
  | c4 hs hi => exact ⟨_, .c4 hs hi, ⟨rfl, rfl, rfl, rfl, rfl, rfl, rfl, rfl, rfl⟩⟩
  | c4Erase hs => exact ⟨_, .c4Erase hs, ⟨rfl, rfl, rfl, rfl, rfl, rfl, rfl, rfl, rfl⟩⟩
  | d0Read hs hi => exact ⟨_, .d0Read hs hi, ⟨rfl, rfl, rfl, rfl, rfl, rfl, rfl, rfl, rfl⟩⟩
  | d0Write hs hi => exact ⟨_, .d0Write hs hi, ⟨rfl, rfl, rfl, rfl, rfl, rfl, rfl, rfl, rfl⟩⟩
  | d1Read hs hi => exact ⟨_, .d1Read hs hi, ⟨rfl, rfl, rfl, rfl, rfl, rfl, rfl, rfl, rfl⟩⟩
  | d1Write hs hi => exact ⟨_, .d1Write hs hi, ⟨rfl, rfl, rfl, rfl, rfl, rfl, rfl, rfl, rfl⟩⟩
  | d2Single hs hi => exact ⟨_, .d2Single hs hi, ⟨rfl, rfl, rfl, rfl, rfl, rfl, rfl, rfl, rfl⟩⟩
  | d2First hs hi hpass => exact ⟨_, .d2First hs hi hpass, ⟨rfl, rfl, rfl, rfl, rfl, rfl, rfl, rfl, rfl⟩⟩
  | d2Wrcfg hs hpass => exact ⟨_, .d2Wrcfg hs hpass, ⟨rfl, rfl, rfl, rfl, rfl, rfl, rfl, rfl, rfl⟩⟩
  | d2Wrcblk hs hpass => exact ⟨_, .d2Wrcblk hs hpass, ⟨rfl, rfl, rfl, rfl, rfl, rfl, rfl, rfl, rfl⟩⟩
  | d2Wrfblk hs => exact ⟨_, .d2Wrfblk hs, ⟨rfl, rfl, rfl, rfl, rfl, rfl, rfl, rfl, rfl⟩⟩
  | d2Rdblk hs hi => exact ⟨_, .d2Rdblk hs hi, ⟨rfl, rfl, rfl, rfl, rfl, rfl, rfl, rfl, rfl⟩⟩
  | bchkRange hs hi hr hc => exact ⟨_, .bchkRange hs hi hr hc, ⟨rfl, rfl, rfl, rfl, rfl, rfl, rfl, rfl, rfl⟩⟩
  | bchkEmpty hs hi hr hlen => exact ⟨_, .bchkEmpty hs hi hr hlen, ⟨rfl, rfl, rfl, rfl, rfl, rfl, rfl, rfl, rfl⟩⟩
  | bchk hs hi hr hlen => exact ⟨_, .bchk hs hi hr hlen, ⟨rfl, rfl, rfl, rfl, rfl, rfl, rfl, rfl, rfl⟩⟩
  | bld hs hi => exact ⟨_, .bld hs hi, ⟨rfl, rfl, rfl, rfl, rfl, rfl, rfl, rfl, rfl⟩⟩
  | bst hs hi => exact ⟨_, .bst hs hi, ⟨rfl, rfl, rfl, rfl, rfl, rfl, rfl, rfl, rfl⟩⟩
  | byl hs hi => exact ⟨_, .byl hs hi, ⟨rfl, rfl, rfl, rfl, rfl, rfl, rfl, rfl, rfl⟩⟩
  | bnxAgain hs hi hlt => exact ⟨_, .bnxAgain hs hi hlt, ⟨rfl, rfl, rfl, rfl, rfl, rfl, rfl, rfl, rfl⟩⟩
  | bnxLast hs hi hge => exact ⟨_, .bnxLast hs hi hge, ⟨rfl, rfl, rfl, rfl, rfl, rfl, rfl, rfl, rfl⟩⟩

/-- Settles O58: the issue looks at nothing, and each row goes to the row of the same name. -/
theorem answersNeverChangeThePath : Obligations.AnswersNeverChangeThePath := by
  intro i s s' t hP hs2 h
  rw [hP.eq_withRest]
  rcases exec_next_iff.mp h with ⟨hb, rfl⟩ | ⟨hb, hstep⟩
  · exact ⟨_, exec_idle i hb, ⟨rfl, rfl, rfl, rfl, rfl, rfl, rfl, rfl, rfl⟩⟩
  · obtain ⟨t', hstep', hP'⟩ := hstep.withRest hs2 s'
    exact ⟨t', hstep'.exec_next hb, hP'⟩

end Sys2Proof.Machine
end

section
/-! What a step of an operation leaves as it is (R39): the operands and the environment, DATA, the flags and counters, the
buffer; each by cases on the row. -/

namespace Sys2Proof.Machine

section Frames
variable {s t : State} {i : Instr} (h : OpStep s i t)
include h

theorem OpStep.script_eq : t.script = s.script := by cases h <;> rfl
theorem OpStep.seen_eq : t.seen = s.seen := by cases h <;> rfl
theorem OpStep.stalled_eq : t.stalled = s.stalled := by cases h <;> rfl

/-- DATA takes the byte read at D1, the byte loaded at BLD, and is left else (R28). -/
theorem OpStep.data_eq :
    t.data = if s.seq = .d1 ∧ i ∈ readOps then s.byteAt 0 else if s.seq = .bld then s.loadedByte else s.data := by
  cases h with
  | d1Read hs hi => simp [hs, hi]
  | d1Write hs hi =>
    have hr : i ∉ readOps := fun hr => by
      have hw := writesByte_of_writeOps hi
      rw [writesByte_of_readOps hr] at hw
      cases hw
    simp [hs, hr]
  | _ => simp [‹s.seq = _›]

theorem OpStep.bld_ops (hs : s.seq = .bld) : i = .wrfblk ∨ i = .wrcblk := by
  cases h with
  | bld _ hi => exact hi
  | _ => simp [‹s.seq = _›] at hs

theorem OpStep.bst_ops (hs : s.seq = .bst) : i = .rdfblk ∨ i = .rdcblk := by
  cases h with
  | bst _ hi => exact hi
  | _ => simp_all

theorem OpStep.hs_eq (hi : i ≠ .handshake) : t.hs = s.hs := by
  cases h <;> first | rfl | exact absurd rfl hi

theorem OpStep.att_eq (hi : i ≠ .handshake) : t.att = s.att := by
  cases h <;> first | rfl | exact absurd rfl hi

/-- PASS changes in a config write's first pass and at the next byte of a block alone (R34, R190). -/
theorem OpStep.pass_eq (hi : i ≠ .wrcfg) (hblock : isBlock i = false) : t.pass = s.pass := by
  cases h with
  | d2First _ hi' => rcases hi' with rfl | rfl <;> simp [isBlock] at hi hblock
  | bnxAgain _ hi' => simp [hblock] at hi'
  | _ => rfl

theorem OpStep.pass_false (hi : i ≠ .wrcblk) (hblock : isBlock i = true) (hp : s.pass = false) : t.pass = false := by
  cases h with
  | d2First _ hi' => rcases hi' with rfl | rfl <;> simp [isBlock] at hi hblock
  | bnxAgain => rfl
  | _ => exact hp

theorem OpStep.idx_eq : t.idx = if s.seq = .bnx then s.idx + 1 else s.idx := by
  cases h <;> simp [‹s.seq = _›]

/-- HANDSHAKE and RESET count no step (R135, R160). -/
theorem OpStep.acc_eq (hi : i = .handshake ∨ i = .reset) : t.acc = s.acc := by
  have hrow : ∀ cmd bs, (i, cmd, bs) ∉ commandTable s := by rcases hi with rfl | rfl <;> simp [commandTable]
  have hdata : i ∉ readOps ∧ i ∉ writeOps := by rcases hi with rfl | rfl <;> decide
  have hblock : isBlock i = false := by rcases hi with rfl | rfl <;> rfl
  cases h with
  | c0 _ hr | c1Bare _ hr | c1 _ hr | c2Only _ hr | c2 _ hr | c3 _ hr => exact absurd hr (hrow _ _)
  | d0Read _ hi' => exact absurd hi' hdata.1
  | d0Write _ hi' | d1Write _ hi' => exact absurd hi' hdata.2
  | bnxAgain _ hi' => simp [hblock] at hi'
  | _ => rfl

/-- RES changes only in the step that clears BUSY (R23). -/
theorem OpStep.res_or_finished : t.res = s.res ∨ t.busy = false := by
  cases h <;> first | exact .inl rfl | exact .inr rfl

/-- BST stores DATA at IDX (R69, R194). -/
theorem OpStep.buf_bst (hs : s.seq = .bst) : t.buf = s.buf.write s.idx.toNat s.data := by
  cases h with
  | bst => rfl
  | _ => simp_all

theorem OpStep.buf_eq (hs : s.seq ≠ .bst) : t.buf = s.buf := by
  cases h with
  | bst hs' => exact absurd hs' hs
  | _ => rfl

end Frames

/-- Settles O51: no row and no issue writes them, and the issue alone writes OPC. -/
theorem operationsNeverWriteOperands : Obligations.OperationsNeverWriteOperands := by
  intro i s t h
  rcases exec_next_iff.mp h with ⟨hb, rfl⟩ | ⟨hb, hstep⟩
  · simp [State.issued, hb]
  · simp [hb, hstep.addr_eq, hstep.len_eq, hstep.cfg_eq, hstep.script_eq, hstep.seen_eq, hstep.stalled_eq,
      hstep.opc_eq]

/-- Settles O52: of the rows only those of D1 in a read and of BLD write DATA. -/
theorem dataWrittenOnlyByReadAndLoad : Obligations.DataWrittenOnlyByReadAndLoad := by
  intro i s t h
  rcases exec_next_iff.mp h with ⟨hb, rfl⟩ | ⟨hb, hstep⟩
  · simp [State.issued, hb]
  · simp only [hb, true_and]
    exact ⟨hstep.data_eq, hstep.bld_ops⟩

/-- Settles O53: the fields one by one. -/
theorem flagAndCounterWriters : Obligations.FlagAndCounterWriters := by
  intro i s t h
  rcases exec_next_iff.mp h with ⟨hb, rfl⟩ | ⟨hb, hstep⟩
  · simp [State.issued, hb]
  · exact ⟨hstep.hs_eq, fun _ => hstep.att_eq, fun _ => hstep.pass_eq, fun _ => hstep.pass_false,
      fun _ => hstep.idx_eq, fun _ => hstep.acc_eq, fun _ => hstep.res_or_finished⟩

/-- Settles O54: BST is the one row that stores, and a store is seen at its own index alone. -/
theorem bufferWrittenOnlyAtIndex : Obligations.BufferWrittenOnlyAtIndex := by
  intro i s t h
  rcases exec_next_iff.mp h with ⟨hb, rfl⟩ | ⟨hb, hstep⟩
  · simp [State.issued, hb]
  · simp only [hb, true_and]
    refine ⟨fun hs => ⟨hstep.bst_ops hs, ?_, fun a ha => ?_⟩, hstep.buf_eq⟩ <;> rw [hstep.buf_bst hs]
    · exact Memory.read_write_same _ _ _
    · exact Memory.read_write_other _ ha _

end Sys2Proof.Machine
end

section
/-! What a step makes of its calls, its answers and its failures: one call a step (R7), a nack on a counted step (R225),
what a finish reports (R221), and that the Handshake State gates nothing (R227). -/

namespace Sys2Proof.Machine

/-! ## One call a step -/

section Calls
variable {s t : State} {i : Instr}

/-- A row at a label that calls adds its one call, any other adds none (R131). -/
theorem OpStep.trace_eq (h : OpStep s i t) :
    if s.seq.calls = true then ∃ e, (∀ b, e ≠ .resetInput b) ∧ t.trace = s.trace ++ [e] else t.trace = s.trace := by
  cases h <;> simp [‹s.seq = _›, Label.calls]

/-- A step of an operation adds at most one event. -/
theorem exec_trace_le_one (h : exec i s = .next t) : ∃ es, es.length ≤ 1 ∧ t.trace = s.trace ++ es := by
  rcases exec_next_iff.mp h with ⟨-, rfl⟩ | ⟨-, hstep⟩
  · exact ⟨[], by simp, (List.append_nil _).symm⟩
  · have htrace := hstep.trace_eq
    split at htrace
    · obtain ⟨e, -, he⟩ := htrace
      exact ⟨[e], by simp, he⟩
    · exact ⟨[], by simp, by simpa using htrace⟩

end Calls

/-- Settles O55: a row makes its call, a host move makes none, and the reset input leaves its mark. -/
theorem oneCallPerStep : Obligations.OneCallPerStep := by
  refine ⟨fun i s t h hb => ?_, fun s t h => ?_⟩
  · rcases exec_next_iff.mp h with ⟨hb', -⟩ | ⟨-, hstep⟩
    · simp [hb] at hb'
    · exact hstep.trace_eq
  · rcases step_cases h with ⟨i, rest, hexec, -⟩ | ⟨rest, addr, len, data, opc, res, buf, stalled, seen, rfl, -⟩ |
      ⟨rest, -, rfl⟩
    · exact exec_trace_le_one (s := { s with script := rest }) hexec
    · exact ⟨[], by simp, (List.append_nil _).symm⟩
    · exact ⟨[.resetInput s.busy], by simp, rfl⟩

/-- Settles O56: an issue raises BUSY; a finish and the reset input clear it; a host move leaves it. -/
theorem busyChangesOnlyByIssueFinishReset : Obligations.BusyChangesOnlyByIssueFinishReset := by
  intro s t h
  rcases step_cases h with ⟨i, rest, hexec, -, hissue⟩ | ⟨rest, addr, len, data, opc, res, buf, stalled, seen, rfl, -⟩ |
    ⟨rest, hs, rfl⟩
  · rcases exec_next_iff.mp hexec with ⟨hb, rfl⟩ | ⟨hb, hstep⟩
    · refine ⟨fun hb' _ => ?_, fun hb' => absurd (hb'.symm.trans hb) (by simp)⟩
      obtain ⟨v, hscript, hd⟩ := hissue hb'
      exact ⟨v, rest, i, hscript, hd, rfl, rfl⟩
    · refine ⟨fun hb' => absurd (hb'.symm.trans hb) (by simp), fun _ hbt => .inl ⟨?_, ?_⟩⟩
      · exact (hstep.busy_iff hb).mp hbt
      · exact hstep.res_ne_none hb hbt
  · exact ⟨fun hb hbt => absurd (hb.symm.trans hbt) (by simp), fun hb hbt => absurd (hb.symm.trans hbt) (by simp)⟩
  · exact ⟨fun _ hbt => (nomatch hbt), fun _ _ => .inr ⟨rest, hs⟩⟩

/-! ## A nack on a counted step -/

/-- The state in which the next answer is an acknowledge, all others as they are. -/
def State.acked (s : State) : State := { s with acks := true :: s.acks.tail }

@[simp] theorem State.acked_ackAt (s : State) : s.acked.ackAt 0 = true := rfl
@[simp] theorem State.acked_trace (s : State) : s.acked.trace = s.trace := rfl
@[simp] theorem State.acked_acc (s : State) : s.acked.acc = s.acc := rfl

section Nack
variable {s : State} {i : Instr} {l : Label}

/-- `t` is where a nack leads whose acknowledge leads to `u`, the call of the step being `e`. -/
def NackOf (s t u : State) (e : Bool → Event) : Prop :=
  u.trace = s.trace ++ [e true] ∧ u.acc = s.acc ∧ t = { u with acc := false, trace := s.trace ++ [e false] }

theorem nackOf_countedStart (a : BusAddr) (d : Dir) (ha : s.ackAt 0 = false) :
    NackOf s ((s.countedStart a d).goto l) ((s.acked.countedStart a d).goto l) (.start a d) := by
  refine ⟨by simp, by simp, ?_⟩
  ext1
  case acc | trace => simp [ha]
  all_goals rfl

theorem nackOf_countedWrite (v : Byte) (ha : s.ackAt 0 = false) :
    NackOf s ((s.countedWrite v).goto l) ((s.acked.countedWrite v).goto l) (.write v) := by
  refine ⟨by simp, by simp, ?_⟩
  ext1
  case acc | trace => simp [ha]
  all_goals rfl

/-- A counted step is a counted start or a counted write, and goes where it goes whatever the answer. -/
theorem OpStep.nackOf {t : State} (h : OpStep s i t) (hc : countedClass i s.seq ≠ none) (ha : s.ackAt 0 = false) :
    ∃ u e, OpStep s.acked i u ∧ ((∃ a d, e = .start a d) ∨ ∃ v, e = .write v) ∧ NackOf s t u e := by
  cases h with
  | c0 hs hrow => exact ⟨_, _, .c0 hs hrow, .inl ⟨_, _, rfl⟩, nackOf_countedStart _ _ ha⟩
  | c1Bare hs hrow => exact ⟨_, _, .c1Bare hs hrow, .inr ⟨_, rfl⟩, nackOf_countedWrite _ ha⟩
  | c1 hs hrow => exact ⟨_, _, .c1 hs hrow, .inr ⟨_, rfl⟩, nackOf_countedWrite _ ha⟩
  | c2Only hs hrow => exact ⟨_, _, .c2Only hs hrow, .inr ⟨_, rfl⟩, nackOf_countedWrite _ ha⟩
  | c2 hs hrow => exact ⟨_, _, .c2 hs hrow, .inr ⟨_, rfl⟩, nackOf_countedWrite _ ha⟩
  | c3 hs hrow => exact ⟨_, _, .c3 hs hrow, .inr ⟨_, rfl⟩, nackOf_countedWrite _ ha⟩
  | d0Read hs hi => exact ⟨_, _, .d0Read hs hi, .inl ⟨_, _, rfl⟩, nackOf_countedStart _ _ ha⟩
  | d0Write hs hi => exact ⟨_, _, .d0Write hs hi, .inl ⟨_, _, rfl⟩, nackOf_countedStart _ _ ha⟩
  | d1Write hs hi => exact ⟨_, _, .d1Write hs hi, .inr ⟨_, rfl⟩, nackOf_countedWrite _ ha⟩
  | d1Read hs hi => simp [hs, countedClass, writesByte_of_readOps hi] at hc
  | _ => simp [‹s.seq = _›, countedClass] at hc

theorem OpStep.busy_of_counted {t : State} (h : OpStep s i t) (hc : countedClass i s.seq ≠ none) : t.busy = s.busy := by
  cases h <;> first | rfl | simp [‹s.seq = _›, countedClass] at hc

end Nack

/-- Settles O57: the acknowledged step is the row of the same name. -/
theorem nackChangesOnlyAcc : Obligations.NackChangesOnlyAcc := by
  rintro i s t hb ⟨hc, ha⟩ h
  rcases exec_next_iff.mp h with ⟨hb', -⟩ | ⟨-, hstep⟩
  · simp [hb] at hb'
  · obtain ⟨u, e, hu, he, htrace, hacc, ht⟩ := hstep.nackOf hc ha
    exact ⟨u, e, hu.exec_next hb, he, htrace, hacc, ht, (hstep.busy_of_counted hc).trans hb⟩

/-! ## The Handshake State gates nothing -/

/-- Every row has, in any other Handshake State, the row of the same name; HS is left or written over. -/
theorem OpStep.withHs {s t : State} {i : Instr} (h : OpStep s i t) (x : HsState) :
    ∃ x', OpStep { s with hs := x } i { t with hs := x' } ∧ (i ≠ .handshake → x' = x) := by
  cases h with
  | h0 hs => exact ⟨.retrying, .h0 hs, fun hi => absurd rfl hi⟩
  | h1 hs => exact ⟨x, .h1 hs, fun hi => absurd rfl hi⟩
  | h2Acked hs ha => exact ⟨x, .h2Acked hs ha, fun hi => absurd rfl hi⟩
  | h2Nacked hs ha => exact ⟨x, .h2Nacked hs ha, fun hi => absurd rfl hi⟩
  | h3Again hs hatt => exact ⟨x, .h3Again hs hatt, fun hi => absurd rfl hi⟩
  | h3Exhausted hs hatt => exact ⟨.failed, .h3Exhausted hs hatt, fun hi => absurd rfl hi⟩
  | h4 hs => exact ⟨x, .h4 hs, fun hi => absurd rfl hi⟩
  | h5 hs => exact ⟨x, .h5 hs, fun hi => absurd rfl hi⟩
  | h6 hs => exact ⟨x, .h6 hs, fun hi => absurd rfl hi⟩
  | h7Reading hs hc => exact ⟨x, .h7Reading hs hc, fun hi => absurd rfl hi⟩
  | h7 hs hc => exact ⟨x, .h7 hs hc, fun hi => absurd rfl hi⟩
  | hr hs => exact ⟨x, .hr hs, fun hi => absurd rfl hi⟩
  | h8 hs => exact ⟨.acknowledged, .h8 hs, fun hi => absurd rfl hi⟩
  | x0Reading hs hc => exact ⟨x, .x0Reading hs hc, fun _ => rfl⟩
  | x0 hs hc => exact ⟨x, .x0 hs hc, fun _ => rfl⟩
  | xr hs => exact ⟨x, .xr hs, fun _ => rfl⟩
  | x1 hs => exact ⟨x, .x1 hs, fun _ => rfl⟩
  | c0 hs hrow => exact ⟨x, .c0 hs hrow, fun _ => rfl⟩
  | c1Bare hs hrow => exact ⟨x, .c1Bare hs hrow, fun _ => rfl⟩
  | c1 hs hrow => exact ⟨x, .c1 hs hrow, fun _ => rfl⟩
  | c2Only hs hrow => exact ⟨x, .c2Only hs hrow, fun _ => rfl⟩
  | c2 hs hrow => exact ⟨x, .c2 hs hrow, fun _ => rfl⟩
  | c3 hs hrow => exact ⟨x, .c3 hs hrow, fun _ => rfl⟩
  | c4 hs hi => exact ⟨x, .c4 hs hi, fun _ => rfl⟩
  | c4Erase hs => exact ⟨x, .c4Erase hs, fun _ => rfl⟩
  | d0Read hs hi => exact ⟨x, .d0Read hs hi, fun _ => rfl⟩
  | d0Write hs hi => exact ⟨x, .d0Write hs hi, fun _ => rfl⟩
  | d1Read hs hi => exact ⟨x, .d1Read hs hi, fun _ => rfl⟩
  | d1Write hs hi => exact ⟨x, .d1Write hs hi, fun _ => rfl⟩
  | d2Single hs hi => exact ⟨x, .d2Single hs hi, fun _ => rfl⟩
  | d2First hs hi hpass => exact ⟨x, .d2First hs hi hpass, fun _ => rfl⟩
  | d2Wrcfg hs hpass => exact ⟨x, .d2Wrcfg hs hpass, fun _ => rfl⟩
  | d2Wrcblk hs hpass => exact ⟨x, .d2Wrcblk hs hpass, fun _ => rfl⟩
  | d2Wrfblk hs => exact ⟨x, .d2Wrfblk hs, fun _ => rfl⟩
  | d2Rdblk hs hi => exact ⟨x, .d2Rdblk hs hi, fun _ => rfl⟩
  | bchkRange hs hi hr hc => exact ⟨x, .bchkRange hs hi hr hc, fun _ => rfl⟩
  | bchkEmpty hs hi hr hlen => exact ⟨x, .bchkEmpty hs hi hr hlen, fun _ => rfl⟩
  | bchk hs hi hr hlen => exact ⟨x, .bchk hs hi hr hlen, fun _ => rfl⟩
  | bld hs hi => exact ⟨x, .bld hs hi, fun _ => rfl⟩
  | bst hs hi => exact ⟨x, .bst hs hi, fun _ => rfl⟩
  | byl hs hi => exact ⟨x, .byl hs hi, fun _ => rfl⟩
  | bnxAgain hs hi hlt => exact ⟨x, .bnxAgain hs hi hlt, fun _ => rfl⟩
  | bnxLast hs hi hge => exact ⟨x, .bnxLast hs hi hge, fun _ => rfl⟩

/-- Settles O59: the issue looks at no HS, nor does a row. -/
theorem handshakeStateGatesNothing : Obligations.HandshakeStateGatesNothing := by
  intro i s t x h
  rcases exec_next_iff.mp h with ⟨hb, rfl⟩ | ⟨hb, hstep⟩
  · exact ⟨x, exec_idle i hb, fun _ => rfl⟩
  · obtain ⟨x', hstep', hx⟩ := hstep.withHs x
    exact ⟨x', hstep'.exec_next hb, hx⟩

end Sys2Proof.Machine
end

section
/-! What is reported of a failure (R221, R222), and which calls are whose (R108). -/

namespace Sys2Proof.Machine

/-- The result by ACC is one of two (R162). -/
theorem resultOfAcc_cases (b : Bool) : resultOfAcc b = .ok ∨ resultOfAcc b = .fail := by cases b <;> simp [resultOfAcc]

section Failures
variable {s t : State} {i : Instr}

/-- ACC falls at a counted step answered nack, and nowhere else (R150). -/
theorem OpStep.nack_of_acc (h : OpStep s i t) (ha : s.acc = true) (hf : t.acc = false) :
    s.ackAt 0 = false ∧ (countedClass i s.seq = some .nackCmd ∨ countedClass i s.seq = some .nackData) := by
  cases h with
  | c0 hs | c1Bare hs | c1 hs | c2Only hs | c2 hs | c3 hs | d0Read hs | d0Write hs =>
    exact ⟨by simpa [ha] using hf, by simp [hs, countedClass]⟩
  | d1Write hs hi => exact ⟨by simpa [ha] using hf, by simp [hs, countedClass, writesByte_of_writeOps hi]⟩
  | _ => simp [ha] at hf

/-- At a counted step the class of the failure is the step's, where the byte decides the result (R221). -/
theorem failureAt_of_counted (hc : countedClass i s.seq ≠ none) (ha : s.ackAt 0 = false) :
    failureAt i s = if decidesResult i s then countedClass i s.seq else none := by
  unfold failureAt
  split
  case h_4 => simp [ha]
  all_goals simp [‹s.seq = _›, countedClass] at hc

theorem failureAt_bchk (hs : s.seq = .bchk) : failureAt i s = if rangeFails i s then some .range else none := by
  simp [failureAt, hs]

/-- What a finish reports, by the row that finishes. -/
theorem OpStep.finish_reports (h : OpStep s i t) (hb : s.busy = true) (hbt : t.busy = false) :
    (i = .reset ∧ s.seq = .x1 ∧ t.res = .unverified) ∨
    (i = .handshake ∧ failureAt i s = some .hsExhausted ∧ t.hs = .failed ∧ t.res = .fail ∧ s.seq = .h3) ∨
    (i = .handshake ∧ t.hs = .acknowledged ∧ t.res = .ok ∧ s.seq = .h8) ∨
    (i ≠ .handshake ∧ i ≠ .reset ∧ s.seq = .bchk ∧ failureAt i s = some .range ∧ t.res = .fail) ∨
    (i ≠ .handshake ∧ i ≠ .reset ∧ s.seq = .bchk ∧ failureAt i s = none ∧ s.len = 0 ∧ (t.res = .ok ∨ t.res = .fail)) ∨
    (i ≠ .handshake ∧ i ≠ .reset ∧ s.seq ≠ .bchk ∧ t.res = okIf s.acc) := by
  have hblock : isBlock i = true → i ≠ .handshake ∧ i ≠ .reset := by cases i <;> decide
  cases h with
  | x1 hs => exact .inl ⟨rfl, hs, rfl⟩
  | h3Exhausted hs hatt =>
    exact .inr (.inl ⟨rfl, by simp [failureAt, hs, Nat.not_lt.mpr hatt], rfl, rfl, hs⟩)
  | h8 hs => exact .inr (.inr (.inl ⟨rfl, rfl, rfl, hs⟩))
  | bchkRange hs hi hr =>
    exact .inr (.inr (.inr (.inl ⟨(hblock hi).1, (hblock hi).2, hs, by simp [failureAt_bchk hs, hr], rfl⟩)))
  | bchkEmpty hs hi hr hlen =>
    exact .inr (.inr (.inr (.inr (.inl ⟨(hblock hi).1, (hblock hi).2, hs, by simp [failureAt_bchk hs, hr], hlen,
      resultOfAcc_cases _⟩))))
  | bnxLast hs hi =>
    exact .inr (.inr (.inr (.inr (.inr ⟨(hblock hi).1, (hblock hi).2, by simp [hs], rfl⟩))))
  | c4Erase hs | d2Wrcfg hs =>
    exact .inr (.inr (.inr (.inr (.inr ⟨by decide, by decide, by simp [hs], rfl⟩))))
  | d2Single hs hi =>
    refine .inr (.inr (.inr (.inr (.inr ⟨?_, ?_, by simp [hs], rfl⟩)))) <;> rintro rfl <;> revert hi <;> decide
  | _ => exact absurd (hb.symm.trans hbt) (by simp)

end Failures

/-- Settles O60: ACC falls by the counted rows, and the finishes are read off one by one. -/
theorem resultsThatCanBeReported : Obligations.ResultsThatCanBeReported := by
  intro i s t hb h
  rcases exec_next_iff.mp h with ⟨hb', -⟩ | ⟨-, hstep⟩
  · simp [hb] at hb'
  · refine ⟨fun ha hf => ?_, fun hbt => ?_⟩
    · obtain ⟨hack, hclass⟩ := hstep.nack_of_acc ha hf
      exact ⟨hack, hclass, failureAt_of_counted (by rcases hclass with hc | hc <;> simp [hc]) hack⟩
    · rcases hstep.finish_reports hb hbt with ⟨rfl, hs, hr⟩ | ⟨rfl, hf, hhs, hr, hs⟩ | ⟨rfl, hhs, hr, hs⟩ |
        ⟨hi, hi', hs, hf, hr⟩ | ⟨hi, hi', hs, hf, hlen, hr⟩ | ⟨hi, hi', hs, hr⟩
      · simp [hr, hs, isBlock, failureAt]
      · simp [hr, hhs, hf, isBlock]
      · simp [hr, hhs, isBlock]
      · simp [hr, hi, hi', hf, hs]
      · rcases hr with hr | hr <;> simp [hr, hi, hi', hf, hs, hlen]
      · cases hacc : s.acc <;> simp [hr, hi, hi', hs, hacc, okIf]

/-- Settles O48: each row's one event, against the constants of this hardware. -/
theorem callsBelongToTheirOperations : Obligations.CallsBelongToTheirOperations := by
  intro i s t e hcfg h he
  rcases exec_next_iff.mp h with ⟨-, rfl⟩ | ⟨-, hstep⟩
  · simp [State.issued] at he
  · cases hstep with
    | bchkRange | bchkEmpty | bchk | bnxAgain | bnxLast => simp at he
    | _ =>
      simp [hcfg, Config.default] at he
      subst he
      simp [*]

end Sys2Proof.Machine
end

section
/-! What every step of the machine keeps beside the control invariant: the configuration (R36), the values emitted (R72,
R108), the canonical buffer; and that no step from an invariant state faults (R31, R220). -/

namespace Sys2Proof.Machine

section Kept
variable {s t : State} {i : Instr}

theorem exec_cfg (h : exec i s = .next t) : t.cfg = s.cfg := by
  rcases exec_next_iff.mp h with ⟨-, rfl⟩ | ⟨-, hstep⟩
  · rfl
  · exact hstep.cfg_eq

theorem step_cfg (h : step s = .next t) : t.cfg = s.cfg := by
  rcases step_cases h with ⟨i, rest, hexec, -⟩ | ⟨rest, addr, len, data, opc, res, buf, stalled, seen, rfl, -⟩ |
    ⟨rest, -, rfl⟩
  · exact exec_cfg (s := { s with script := rest }) hexec
  · rfl
  · rfl

/-- Every call is one the format allows (R72, R108). -/
theorem OpStep.trace_allowed (h : OpStep s i t) (ha : s.trace.all (allowedEvent s.cfg) = true) :
    t.trace.all (allowedEvent s.cfg) = true := by
  cases h <;> simpa [allowedEvent] using ha

theorem exec_trace_allowed (h : exec i s = .next t) (ha : s.trace.all (allowedEvent s.cfg) = true) :
    t.trace.all (allowedEvent s.cfg) = true := by
  rcases exec_next_iff.mp h with ⟨-, rfl⟩ | ⟨-, hstep⟩
  · exact ha
  · exact hstep.trace_allowed ha

theorem exec_buf_wf (h : exec i s = .next t) (hw : s.buf.wf = true) : t.buf.wf = true := by
  rcases exec_next_iff.mp h with ⟨-, rfl⟩ | ⟨-, hstep⟩
  · exact hw
  · exact hstep.buf_wf hw

end Kept

/-- Settles O6: the values by definition; no case of a step writes the configuration. -/
theorem constantsAreTheSpecs : Obligations.ConstantsAreTheSpecs :=
  ⟨rfl, by decide, fun _ _ h => step_cfg h⟩

/-- Settles O47: calls are made by operations alone; the reset input leaves a mark that is no call. -/
theorem stepEmitsAllowedValues : Obligations.StepEmitsAllowedValues := by
  intro s t ha h
  rw [step_cfg h]
  rcases step_cases h with ⟨i, rest, hexec, -⟩ | ⟨rest, addr, len, data, opc, res, buf, stalled, seen, rfl, -⟩ |
    ⟨rest, -, rfl⟩
  · exact exec_trace_allowed (s := { s with script := rest }) hexec ha
  · exact ha
  · simpa [allowedEvent] using ha

/-- Settles O49: a store and a host's write keep the form, and nothing else writes the buffer. -/
theorem stepKeepsBufferCanonical : Obligations.StepKeepsBufferCanonical := by
  intro s t hw h
  rcases step_cases h with ⟨i, rest, hexec, -⟩ |
    ⟨rest, addr, len, data, opc, res, buf, stalled, seen, rfl, hkeep, -⟩ | ⟨rest, -, rfl⟩
  · exact exec_buf_wf (s := { s with script := rest }) hexec hw
  · exact hkeep hw
  · exact hw

/-! ## Progress: at a label of the operation there is a step -/

section Progress
variable {s : State} {i j : Instr} {l : Label}

/-! Whose label each label is. -/

theorem eq_of_hasStep_handshake (h : hasStep i l = true) (hl : hasStep .handshake l = true) : i = .handshake := by
  cases l <;> first | exact absurd hl (by decide) | (cases i <;> first | rfl | exact absurd h (by decide))

theorem eq_of_hasStep_reset (h : hasStep i l = true) (hl : hasStep .reset l = true) : i = .reset := by
  cases l <;> first | exact absurd hl (by decide) | (cases i <;> first | rfl | exact absurd h (by decide))

theorem exists_row_of_hasStep (s : State) (h : hasStep i .c0 = true ∨ hasStep i .c1 = true) :
    ∃ cmd bs, (i, cmd, bs) ∈ commandTable s := by
  cases i <;> first | exact absurd h (by decide) | simp [commandTable]

theorem exists_row_of_hasStep_c2 (s : State) (h : hasStep i .c2 = true) :
    ∃ cmd b bs, (i, cmd, b :: bs) ∈ commandTable s := by
  cases i <;> first | exact absurd h (by decide) | simp [commandTable]

theorem exists_row_of_hasStep_c3 (s : State) (h : hasStep i .c3 = true) :
    ∃ cmd b c bs, (i, cmd, b :: c :: bs) ∈ commandTable s := by
  cases i <;> first | exact absurd h (by decide) | simp [commandTable]

theorem data_of_hasStep (h : hasStep i .d0 = true ∨ hasStep i .d1 = true ∨ hasStep i .d2 = true) :
    i ∈ readOps ∨ i ∈ writeOps := by
  revert h
  cases i <;> decide

theorem data_of_hasStep_c4 (h : hasStep i .c4 = true) : i = .erase ∨ i ∈ readOps ∨ i ∈ writeOps := by
  revert h
  cases i <;> decide

theorem isBlock_of_hasStep (h : hasStep i .bchk = true ∨ hasStep i .bnx = true) : isBlock i = true := by
  revert h
  cases i <;> decide

theorem write_of_hasStep (h : hasStep i .bld = true) : i = .wrfblk ∨ i = .wrcblk := by
  revert h
  cases i <;> decide

theorem read_of_hasStep (h : hasStep i .bst = true ∨ hasStep i .byl = true) : i = .rdfblk ∨ i = .rdcblk := by
  revert h
  cases i <;> decide

/-- HANDSHAKE has a row at each of its labels. -/
theorem OpStep.exists_handshake (h : hasStep .handshake s.seq = true) : ∃ t, OpStep s .handshake t := by
  cases hs : s.seq <;> rw [hs] at h <;> first | exact absurd h (by decide) | skip
  case h0 => exact ⟨_, .h0 hs⟩
  case h1 => exact ⟨_, .h1 hs⟩
  case h2 =>
    cases ha : s.ackAt 0
    · exact ⟨_, .h2Nacked hs ha⟩
    · exact ⟨_, .h2Acked hs ha⟩
  case h3 =>
    rcases Nat.lt_or_ge s.att.toNat s.cfg.retryBound with hatt | hatt
    · exact ⟨_, .h3Again hs hatt⟩
    · exact ⟨_, .h3Exhausted hs hatt⟩
  case h4 => exact ⟨_, .h4 hs⟩
  case h5 => exact ⟨_, .h5 hs⟩
  case h6 => exact ⟨_, .h6 hs⟩
  case h7 =>
    cases hc : s.cfg.rreqReadsByte
    · exact ⟨_, .h7 hs hc⟩
    · exact ⟨_, .h7Reading hs hc⟩
  case h8 => exact ⟨_, .h8 hs⟩
  case hr => exact ⟨_, .hr hs⟩

theorem OpStep.exists_reset (h : hasStep .reset s.seq = true) : ∃ t, OpStep s .reset t := by
  cases hs : s.seq <;> rw [hs] at h <;> first | exact absurd h (by decide) | skip
  case x0 =>
    cases hc : s.cfg.rreqReadsByte
    · exact ⟨_, .x0 hs hc⟩
    · exact ⟨_, .x0Reading hs hc⟩
  case x1 => exact ⟨_, .x1 hs⟩
  case xr => exact ⟨_, .xr hs⟩

/-- Every label of an operation has a row, but for a range that fails unchecked (D13). -/
theorem OpStep.exists_of_hasStep (h : hasStep i s.seq = true)
    (hr : s.seq = .bchk → rangeFails i s = true → s.cfg.blockRangeCheck = true) : ∃ t, OpStep s i t := by
  cases hs : s.seq <;> rw [hs] at h
  case idle => cases i <;> exact absurd h (by decide)
  case h0 | h1 | h2 | h3 | h4 | h5 | h6 | h7 | h8 | hr =>
    obtain rfl := eq_of_hasStep_handshake h rfl
    exact OpStep.exists_handshake (hs ▸ h)
  case x0 | x1 | xr =>
    obtain rfl := eq_of_hasStep_reset h rfl
    exact OpStep.exists_reset (hs ▸ h)
  case c0 =>
    obtain ⟨cmd, bs, hrow⟩ := exists_row_of_hasStep s (.inl h)
    exact ⟨_, .c0 hs hrow⟩
  case c1 =>
    obtain ⟨cmd, bs, hrow⟩ := exists_row_of_hasStep s (.inr h)
    cases bs with
    | nil => exact ⟨_, .c1Bare hs hrow⟩
    | cons b bs => exact ⟨_, .c1 hs hrow⟩
  case c2 =>
    obtain ⟨cmd, b, bs, hrow⟩ := exists_row_of_hasStep_c2 s h
    cases bs with
    | nil => exact ⟨_, .c2Only hs hrow⟩
    | cons c bs => exact ⟨_, .c2 hs hrow⟩
  case c3 =>
    obtain ⟨cmd, b, c, bs, hrow⟩ := exists_row_of_hasStep_c3 s h
    exact ⟨_, .c3 hs hrow⟩
  case c4 =>
    rcases data_of_hasStep_c4 h with rfl | hi
    · exact ⟨_, .c4Erase hs⟩
    · exact ⟨_, .c4 hs hi⟩
  case d0 =>
    rcases data_of_hasStep (.inl h) with hi | hi
    · exact ⟨_, .d0Read hs hi⟩
    · exact ⟨_, .d0Write hs hi⟩
  case d1 =>
    rcases data_of_hasStep (.inr (.inl h)) with hi | hi
    · exact ⟨_, .d1Read hs hi⟩
    · exact ⟨_, .d1Write hs hi⟩
  case d2 => exact ⟨_, .of_primEnd hs (data_of_hasStep (.inr (.inr h)))⟩
  case bchk => exact ⟨_, .of_blockCheck (isBlock_of_hasStep (.inl h)) hs (hr hs)⟩
  case bld => exact ⟨_, .bld hs (write_of_hasStep h)⟩
  case bst => exact ⟨_, .bst hs (read_of_hasStep (.inl h))⟩
  case byl => exact ⟨_, .byl hs (read_of_hasStep (.inr h))⟩
  case bnx => exact ⟨_, .of_blockNext (isBlock_of_hasStep (.inr h)) hs⟩

/-- An operation at a label of its own does not fault (R31). -/
theorem exec_ne_fault (hb : s.busy = true) (h : hasStep i s.seq = true) (f : Fault) : exec i s ≠ .fault f := by
  intro hf
  by_cases hr : s.seq = .bchk → rangeFails i s = true → s.cfg.blockRangeCheck = true
  · obtain ⟨t, ht⟩ := OpStep.exists_of_hasStep h hr
    rw [ht.exec_next hb] at hf
    cases hf
  · push Not at hr
    obtain ⟨hs, hfails, hc⟩ := hr
    rw [exec_eq, hfails, rangeGuard_refuses hb hs (by simpa using hc)] at hf
    cases hf

end Progress

/-! ## Faults and refusals of a step -/

section Stops
variable {s : State} {r : Refusal}

theorem Inv.sequencerTurn_ne_fault (hI : Inv s) (f : Fault) : sequencerTurn s ≠ .fault f := by
  unfold sequencerTurn
  cases hb : s.busy with
  | false => simp
  | true =>
    obtain ⟨i, hd, hstep⟩ := hI.at_step hb
    rw [if_pos rfl, hd]
    split
    · simp
    · exact exec_ne_fault hb hstep f

/-- The turn of the sequencer is refused by D13's refusal alone. -/
theorem sequencerTurn_refused (h : sequencerTurn s = .refused r) :
    r = .blockOutOfRange ∧ s.busy = true ∧ s.seq = .bchk ∧ s.cfg.blockRangeCheck = false ∧
      ∃ i, decode s.opc = .op i ∧ rangeFails i s = true := by
  unfold sequencerTurn at h
  split at h
  · split at h
    · cases h
    · split at h
      · next i hd =>
        obtain ⟨hr, hb, hs, hf, hc⟩ := exec_refused h
        exact ⟨hr, hb, hs, hc, i, hd, hf⟩
      · cases h
  · cases h

/-- A write to CMD while idle issues, or is the write of a reserved opcode. -/
theorem writeCmd_ne_fault (v : Byte) (hb : s.busy = false) (f : Fault) : writeCmd v s ≠ .fault f := by
  unfold writeCmd
  split
  · next i _ => simp [exec_idle i hb]
  · split <;> simp

theorem writeCmd_refused {v : Byte} (hb : s.busy = false) (h : writeCmd v s = .refused r) :
    r = .reservedOpcodeWritten ∧ s.cfg.refuseReservedOpcodes = true ∧ ∃ q, decode v = .reject q := by
  unfold writeCmd at h
  split at h
  · next i _ => simp [exec_idle i hb] at h
  · next q hq =>
    split at h <;> cases h
    exact ⟨rfl, ‹_›, q, hq⟩

theorem hostWrite_ne_fault (n : Nat) (v : Word) (f : Fault) : hostWrite n v s ≠ .fault f := by
  unfold hostWrite
  split
  · split <;> simp
  · next hb =>
    split <;> first | exact writeCmd_ne_fault _ (by simpa using hb) f | simp

theorem hostWrite_refused {n : Nat} {v : Word} (h : hostWrite n v s = .refused r) :
    (r = .registerWrittenWhileBusy ∧ s.busy = true ∧ s.cfg.refuseBusyWrites = true ∧ n ≤ 4) ∨
    (r = .reservedOpcodeWritten ∧ s.busy = false ∧ s.cfg.refuseReservedOpcodes = true ∧ n = 0 ∧
      ∃ q, decode (lowByte v) = .reject q) := by
  unfold hostWrite at h
  split at h
  · next hb =>
    split at h <;> cases h
    next hn =>
    simp only [Bool.and_eq_true, decide_eq_true_eq] at hn
    exact .inl ⟨rfl, hb, hn.1, hn.2⟩
  · next hb =>
    have hb : s.busy = false := by simpa using hb
    split at h
    · obtain ⟨hr, hc, hq⟩ := writeCmd_refused hb h
      exact .inr ⟨hr, hb, hc, rfl, hq⟩
    all_goals cases h

theorem Inv.step_ne_fault (hI : Inv s) (f : Fault) : step s ≠ .fault f := by
  unfold step
  split
  · exact hI.sequencerTurn_ne_fault f
  · next m rest hs =>
    cases m <;> simp only [takeMove]
    case letStep => exact (hI.withScript rest).sequencerTurn_ne_fault f
    case await => split <;> first | exact hI.sequencerTurn_ne_fault f | simp
    case writeReg n v => exact hostWrite_ne_fault n v f
    case readBuf | writeBuf => split <;> simp
    all_goals simp

end Stops

/-- Settles O50: the turn and the host's write can be refused, and the two moves on the buffer. -/
theorem invariantStatesNeverFault : Obligations.InvariantStatesNeverFault := by
  refine fun s hI => ⟨hI.step_ne_fault, fun r h => ?_⟩
  unfold step at h
  split at h
  · exact .inr (.inr (.inr (sequencerTurn_refused h)))
  · next m rest hs =>
    cases m <;> simp only [takeMove] at h
    case letStep => exact .inr (.inr (.inr (sequencerTurn_refused (s := { s with script := rest }) h)))
    case await =>
      split at h
      · exact .inr (.inr (.inr (sequencerTurn_refused h)))
      · cases h
    case writeReg n v =>
      rcases hostWrite_refused (s := { s with script := rest }) h with ⟨hr, hb, hc, hn⟩ | ⟨hr, hb, hc, rfl, q, hq⟩
      · exact .inr (.inl ⟨hr, hb, hc, n, v, rest, hn, hs⟩)
      · exact .inr (.inr (.inl ⟨hr, hb, hc, v, rest, q, hs, hq⟩))
    case readBuf a =>
      split at h <;> cases h
      exact .inl ⟨rfl, ‹_›, rest, .inl ⟨a, hs⟩⟩
    case writeBuf a v =>
      split at h <;> cases h
      exact .inl ⟨rfl, ‹_›, rest, .inr ⟨a, v, hs⟩⟩
    all_goals cases h

end Sys2Proof.Machine
end

section
/-! The opcode table, reset, and the host port (R20 to R30, R100 to R103, R110, R265): each move of the host as one step. -/

namespace Sys2Proof.Machine

/-! ## Encoding -/

/-- The table lists each operation at its opcode (R102). -/
theorem mem_opcodeTable_iff (b : Byte) (i : Instr) : (b, i) ∈ opcodeTable ↔ b = encode i := by
  cases i <;> simp [opcodeTable, encode, encodeFields, Op8.byte]

theorem decode_instr_all : ∀ b : Byte, (decode b).instr?.all (fun i => b == encode i) = true := by decide

/-- A byte that decodes is the opcode of what it decodes to. -/
theorem eq_encode_of_decode {b : Byte} {i : Instr} (h : decode b = .op i) : b = encode i := by
  have hall := decode_instr_all b
  rw [h] at hall
  simpa [Decoded.instr?] using hall

/-- What is in no row of the table is rejected (R103). -/
theorem decode_of_not_opcode {b : Byte} (h : ∀ p ∈ opcodeTable, p.1 ≠ b) : ∃ r, decode b = .reject r := by
  cases hd : decode b with
  | reject r => exact ⟨r, rfl⟩
  | op i => exact absurd rfl (h _ ((mem_opcodeTable_iff b i).mpr (eq_encode_of_decode hd)))

theorem decode_zeroField_iff : ∀ b : Byte, decode b = .reject .zeroFieldNotZero ↔ b.extractLsb' 5 3 ≠ 0 := by decide

theorem decode_noBlockForm_iff :
    ∀ b : Byte, decode b = .reject .noBlockForm ↔ b ∈ ([0x11, 0x12, 0x13, 0x14] : List Byte) := by decide

/-- Settles O1: the table lists `encode`, which `decode` inverts. -/
theorem opcodeTableDecodes : Obligations.OpcodeTableDecodes := by
  refine ⟨fun p hp => ?_, fun b => decode_of_not_opcode⟩
  rw [(mem_opcodeTable_iff p.1 p.2).mp hp, decode_encode]

/-- Settles O2. -/
theorem decodeEncodeAgree : Obligations.DecodeEncodeAgree :=
  ⟨fun i => ⟨by cases i <;> decide, decode_encode i⟩, fun _ _ => eq_encode_of_decode⟩

/-- Settles O3: each of the two causes has its own set of bytes. -/
theorem rejectionNamesTheCause : Obligations.RejectionNamesTheCause := by
  intro b r h
  have hcause : ∀ q, r = q ↔ decode b = .reject q := fun q => by rw [h, Decoded.reject.injEq]
  exact ⟨(hcause _).trans (decode_zeroField_iff b), (hcause _).trans (decode_noBlockForm_iff b)⟩

/-! ## Reset -/

/-- Settles O4. -/
theorem resetPutsTheResetState : Obligations.ResetPutsTheResetState := by
  refine ⟨⟨rfl, rfl, rfl, rfl, rfl, rfl, rfl, rfl, rfl, rfl⟩, fun s rest hs => ⟨_, step_of_script hs, ?_⟩⟩
  exact ⟨rfl, rfl, rfl, rfl, rfl, rfl, rfl, rfl, rfl, rfl, rfl, rfl, rfl, rfl, rfl, rfl, rfl⟩

theorem step_of_script_nil {s : State} (h : s.script = []) : step s = sequencerTurn s := by
  simp only [step, h]

theorem sequencerTurn_idle {s : State} (hb : s.busy = false) : sequencerTurn s = .next s := by
  simp [sequencerTurn, hb]

/-- Settles O5: the turn of an idle sequencer. -/
theorem idleSequencerDoesNothing : Obligations.IdleSequencerDoesNothing :=
  ⟨fun _ hb hs => (step_of_script_nil hs).trans (sequencerTurn_idle hb),
    (step_of_script_nil rfl).trans (sequencerTurn_idle rfl)⟩

/-- Settles O44: an idle sequencer and an empty trace. -/
theorem resetMeetsTheInvariants : Obligations.ResetMeetsTheInvariants := by
  refine ⟨?_, rfl, rfl⟩
  constructor
  case idle_iff => exact iff_of_true rfl rfl
  case none_fresh => exact fun _ _ => rfl
  case retrying_iff => exact iff_of_false nofun nofun
  case att_le => exact Nat.zero_le _
  case att_zero | idx_zero => exact fun _ => rfl
  case request_reads => exact fun hs => by rcases hs with hs | hs <;> cases hs
  case buf_wf | cfg_wf => decide
  all_goals exact nofun

/-! ## Reading and writing the registers -/

/-- A register write while busy (R30, R265). -/
theorem hostWrite_busy {s : State} (hb : s.busy = true) (n : Nat) (v : Word) :
    hostWrite n v s =
      if s.cfg.refuseBusyWrites && decide (n ≤ 4) then .refused .registerWrittenWhileBusy else .next s := by
  unfold hostWrite
  rw [if_pos hb]

/-- Settles O7: the byte by its parts, and the moves on register 1. -/
theorem statusRegister : Obligations.StatusRegister := by
  refine ⟨fun s => ?_, fun s rest h => step_readReg h, fun s v rest hc h => ?_⟩
  · unfold State.statusByte
    generalize s.busy = b, s.res = r, s.hs = h
    cases b <;> cases r <;> cases h <;> decide
  · rw [step_writeReg h]
    cases hb : s.busy with
    | true => simp [hostWrite, hc hb]
    | false => simp [hostWrite]

/-- Settles O9: HostRead by the register's number. -/
theorem hostReadReturnsRegister : Obligations.HostReadReturnsRegister := by
  intro s n rest h
  refine ⟨s.hostRead n, step_readReg h, ?_, ?_, ?_, ?_, ?_, hostRead_of_five_le s⟩ <;>
  · rintro rfl
    rfl

/-- Settles O10: HostWrite by the register's number. -/
theorem hostWriteIdleWritesRegister : Obligations.HostWriteIdleWritesRegister := by
  intro s n v rest hb h
  rw [step_writeReg h]
  refine ⟨?_, ?_, ?_, ?_, fun hn => hostWrite_of_five_le _ hn v⟩ <;>
  · rintro rfl
    simp [hostWrite, hb, lowByte]

/-- Settles O11: the refusal is of registers 0 to 4 and under its parameter. -/
theorem hostWriteBusyIsIgnored : Obligations.HostWriteBusyIsIgnored := by
  intro s n v rest hb h
  rw [step_writeReg h, hostWrite_busy (s := { s with script := rest }) hb]
  refine ⟨?_, fun hc hn => by simp [hc, hn]⟩
  rintro (hc | hn)
  · simp [hc]
  · simp [show ¬ n ≤ 4 by omega]

/-- The write of a byte to CMD while idle. -/
theorem step_writeCmd {s : State} {b : Byte} {rest : List Move} (hb : s.busy = false)
    (h : s.script = .writeReg 0 (b.setWidth 16) :: rest) : step s = writeCmd b { s with script := rest } := by
  rw [step_writeReg h]
  simp [hostWrite, hb]

/-- Settles O12: the rejected arm of the write to CMD. -/
theorem reservedOpcodeReportsFail : Obligations.ReservedOpcodeReportsFail := by
  intro s b rest hb hno h
  obtain ⟨r, hr⟩ := decode_of_not_opcode hno
  rw [step_writeCmd hb h]
  exact ⟨fun hc => by simp [writeCmd, hr, hc], fun hc => by simp [writeCmd, hr, hc]⟩

/-- An opcode written to CMD while idle issues its operation (R21). -/
theorem step_issue {s : State} {i : Instr} {rest : List Move} (hb : s.busy = false)
    (h : s.script = .writeReg 0 ((encode i).setWidth 16) :: rest) :
    step s = .next ({ s with script := rest }.issued i) := by
  rw [step_writeCmd hb h, writeCmd, decode_encode]
  exact exec_idle i hb

/-- Settles O13: a row of the table is an opcode. -/
theorem opcodeWriteIssuesOperation : Obligations.OpcodeWriteIssuesOperation := by
  intro s b i rest hb hrow h
  obtain rfl := (mem_opcodeTable_iff b i).mp hrow
  exact step_issue hb h

/-- Settles O14: the two moves on the buffer, and what a write leaves. -/
theorem hostBufferMoves : Obligations.HostBufferMoves := by
  intro s a v rest
  refine ⟨fun hb h => ⟨{ s with script := rest, buf := s.buf.write a v }, ?_, rfl, Memory.read_write_same _ _ _,
    fun b hba => Memory.read_write_other _ hba _⟩, fun hb h => ?_, fun hb h => ?_, fun hb h => ?_⟩ <;>
  · rw [step_of_script h]
    simp [takeMove, hb]

/-! ## A session line -/

section Line
variable {s t : State} {n : Nat} {v : Word} {rest : List Move}

theorem core_run_succ (h : step s = .next t) : core.run (n + 1) s = core.run n t := by
  have h' : core.step s = .next t := h
  simp [Host.Core.run, h']

/-- The operand writes of a session line (R110). -/
theorem step_writeReg_addr (hb : s.busy = false) (h : s.script = .writeReg 2 v :: rest) :
    step s = .next { s with script := rest, addr := v } := by
  simp [step_writeReg h, hostWrite, hb]

theorem step_writeReg_len (hb : s.busy = false) (h : s.script = .writeReg 3 v :: rest) :
    step s = .next { s with script := rest, len := v } := by
  simp [step_writeReg h, hostWrite, hb]

theorem step_writeReg_data {d : Byte} (hb : s.busy = false) (h : s.script = .writeReg 4 (d.setWidth 16) :: rest) :
    step s = .next { s with script := rest, data := d } := by
  simp [step_writeReg h, hostWrite, hb]

theorem core_run_issue {i : Instr} (hb : s.busy = false)
    (h : s.script = .writeReg 0 ((encode i).setWidth 16) :: rest) :
    core.run 1 s = .next ({ s with script := rest }.issued i) :=
  core_run_succ (step_issue hb h)

theorem core_run_addr_issue {i : Instr} {a : Word} (hb : s.busy = false)
    (h : s.script = .writeReg 2 a :: .writeReg 0 ((encode i).setWidth 16) :: rest) :
    core.run 2 s = .next ({ s with script := rest, addr := a }.issued i) := by
  refine (core_run_succ (step_writeReg_addr hb h)).trans (core_run_issue ?_ rfl)
  exact hb

theorem core_run_addr_data_issue {i : Instr} {a : Word} {d : Byte} (hb : s.busy = false)
    (h : s.script = .writeReg 2 a :: .writeReg 4 (d.setWidth 16) :: .writeReg 0 ((encode i).setWidth 16) :: rest) :
    core.run 3 s = .next ({ s with script := rest, addr := a, data := d }.issued i) := by
  refine (core_run_succ (step_writeReg_addr hb h)).trans
    ((core_run_succ (step_writeReg_data ?_ rfl)).trans (core_run_issue ?_ rfl)) <;>
  exact hb

theorem core_run_addr_len_issue {i : Instr} {a n : Word} (hb : s.busy = false)
    (h : s.script = .writeReg 2 a :: .writeReg 3 n :: .writeReg 0 ((encode i).setWidth 16) :: rest) :
    core.run 3 s = .next ({ s with script := rest, addr := a, len := n }.issued i) := by
  refine (core_run_succ (step_writeReg_addr hb h)).trans
    ((core_run_succ (step_writeReg_len ?_ rfl)).trans (core_run_issue ?_ rfl)) <;>
  exact hb

end Line

/-- Settles O15: the operand writes of each line, then the issue. -/
theorem sessionLineIssuesItsOperation : Obligations.SessionLineIssuesItsOperation := by
  intro l s rest hb hs
  cases l
  case handshake | reset | erase | rdtype =>
    exact ⟨_, core_run_issue hb hs, rfl, decode_encode _, rfl, rfl, trivial, rfl, rfl⟩
  case rdflash | rdcfg =>
    exact ⟨_, core_run_addr_issue hb hs, rfl, decode_encode _, rfl, rfl, rfl, rfl, rfl⟩
  case wrflash | wrcfg =>
    exact ⟨_, core_run_addr_data_issue hb hs, rfl, decode_encode _, rfl, rfl, ⟨rfl, rfl⟩, rfl, rfl⟩
  case wrfblk | rdfblk | wrcblk | rdcblk =>
    exact ⟨_, core_run_addr_len_issue hb hs, rfl, decode_encode _, rfl, rfl, ⟨rfl, rfl⟩, rfl, rfl⟩

/-! ## The turn of the sequencer -/

section Turn
variable {s : State} {i : Instr}

theorem sequencerTurn_busy (hb : s.busy = true) (hstuck : s.stuck = false) (hd : decode s.opc = .op i) :
    sequencerTurn s = exec i s := by
  simp [sequencerTurn, hb, hstuck, hd]

theorem sequencerTurn_stuck (hstuck : s.stuck = true) : sequencerTurn s = .next s := by
  simp [sequencerTurn, hstuck]

theorem step_await_busy {rest : List Move} (hb : s.busy = true) (h : s.script = .await :: rest) :
    step s = sequencerTurn s := by
  simp [step_of_script h, takeMove, hb]

theorem core_run_of_step_eq (h : step s = .next s) : ∀ n, core.run n s = .next s
  | 0 => rfl
  | n + 1 => (core_run_succ h).trans (core_run_of_step_eq h n)

end Turn

/-- Settles O16: the turn with its call returning, and the write to CMD. -/
theorem stepRunsTheDecodedOperation : Obligations.StepRunsTheDecodedOperation := by
  intro s i _
  refine ⟨fun hb hstuck hd => ⟨fun hs => ?_, fun rest hs => ?_, fun rest hs => ?_⟩, fun v rest hb hs hd => ?_⟩
  · exact (step_of_script_nil hs).trans (sequencerTurn_busy hb hstuck hd)
  · exact (step_await_busy hb hs).trans (sequencerTurn_busy hb hstuck hd)
  · exact (step_of_script hs).trans (sequencerTurn_busy (s := { s with script := rest }) hb hstuck hd)
  · have hd' : decode (lowByte v) = .op i := hd
    rw [step_writeReg hs]
    simp [hostWrite, hb, writeCmd, hd']

/-- While a call does not return, no move but resume and the reset input writes more than the records of the moves
(R233). -/
theorem step_stuck {s t : State} (hb : s.busy = true) (hstalled : s.stalled = true) (hstuck : s.stuck = true)
    (h : step s = .next t) (hreset : ∀ rest, s.script ≠ .assertReset :: rest)
    (hresume : ∀ rest, s.script ≠ .resume :: rest) : t = { s with script := t.script, seen := t.seen } := by
  cases hs : s.script with
  | nil =>
    rw [step_of_script_nil hs, sequencerTurn_stuck hstuck] at h
    cases h; rfl
  | cons m rest =>
    rw [step_of_script hs] at h
    cases m <;> simp only [takeMove] at h
    case letStep =>
      rw [sequencerTurn_stuck (s := { s with script := rest }) hstuck] at h
      cases h; rfl
    case await =>
      rw [if_pos hb, sequencerTurn_stuck hstuck] at h
      cases h; rfl
    case readReg => cases h; rfl
    case writeReg n v =>
      rw [hostWrite_busy (s := { s with script := rest }) hb] at h
      split at h <;> cases h
      rfl
    case readBuf | writeBuf => rw [if_pos hb] at h; cases h
    case stall => cases h; simp [hstalled]
    case resume => exact absurd hs (hresume rest)
    case assertReset => exact absurd hs (hreset rest)

/-- Settles O17: the turn does nothing, and no other move but resume and the reset input writes more than records. -/
theorem unreturnedCallIsStuck : Obligations.UnreturnedCallIsStuck := by
  intro s hb hstalled hcalls
  have hstuck : s.stuck = true := by simp [State.stuck, hstalled, hcalls]
  refine ⟨fun hs => core_run_of_step_eq ?_, fun rest hs => core_run_of_step_eq ?_,
    fun t => step_stuck hb hstalled hstuck, fun rest hs => ⟨_, step_of_script hs, rfl, rfl⟩⟩
  · rw [step_of_script_nil hs, sequencerTurn_stuck hstuck]
  · rw [step_await_busy hb hs, sequencerTurn_stuck hstuck]

end Sys2Proof.Machine
end

section
/-! The steps of the operations as the statements write them (R21, R130, R160, R190 to R195): each is a row of the step
relation. -/

namespace Sys2Proof.Machine

/-- Settles O18. -/
theorem issueOfEveryOperation : Obligations.IssueOfEveryOperation :=
  fun i _ hb => exec_idle i hb

/-- Settles O19: the rows of HANDSHAKE, and H2 as one step for both answers. -/
theorem handshakeSteps : Obligations.HandshakeSteps := by
  refine fun s hb => ⟨fun hs => (OpStep.h0 hs).exec_next hb, fun hs => (OpStep.h1 hs).exec_next hb, fun hs => ?_,
    fun hs hatt => (OpStep.h3Again hs hatt).exec_next hb, fun hs hatt => (OpStep.h3Exhausted hs hatt).exec_next hb,
    fun hs => (OpStep.h4 hs).exec_next hb, fun hs => (OpStep.h5 hs).exec_next hb, fun hs => (OpStep.h6 hs).exec_next hb,
    fun hs => ?_, fun hs => (OpStep.hr hs).exec_next hb, fun hs => (OpStep.h8 hs).exec_next hb⟩
  · exact exec_handshake hb (by simp only [handshakeStep, hs]; rfl)
  · cases hc : s.cfg.rreqReadsByte
    · exact (OpStep.h7 hs hc).exec_next hb
    · exact (OpStep.h7Reading hs hc).exec_next hb

/-- Settles O20: the rows of RESET. -/
theorem resetMcuSteps : Obligations.ResetMcuSteps := by
  refine fun s hb => ⟨fun hs => ?_, fun hs => (OpStep.xr hs).exec_next hb, fun hs => (OpStep.x1 hs).exec_next hb⟩
  cases hc : s.cfg.rreqReadsByte
  · exact (OpStep.x0 hs hc).exec_next hb
  · exact (OpStep.x0Reading hs hc).exec_next hb

/-- Settles O24: the rows of D2. -/
theorem dataPhaseEnds : Obligations.DataPhaseEnds := by
  refine fun s hb hs => ⟨fun i hi => (OpStep.d2Single hs hi).exec_next hb, fun i hi hpass => ?_,
    fun hpass => (OpStep.d2Wrcfg hs hpass).exec_next hb, fun hpass => (OpStep.d2Wrcblk hs hpass).exec_next hb,
    fun i hi => ?_, (OpStep.d2Wrfblk hs).exec_next hb⟩
  · exact (OpStep.d2First hs (by simpa using hi) hpass).exec_next hb
  · exact (OpStep.d2Rdblk hs (by simpa using hi)).exec_next hb

/-- The range check of a block as the inequality on its start and its bound (R191). -/
theorem rangeFails_of_table {s : State} {i : Instr} {a0 bound : Nat}
    (h : (i, a0, bound) ∈
      ([(.rdfblk, s.addr.toNat, s.cfg.flashSize), (.wrfblk, s.addr.toNat, s.cfg.flashSize),
        (.rdcblk, (s.addr.extractLsb' 0 8).toNat, s.cfg.cfgSize),
        (.wrcblk, (s.addr.extractLsb' 0 8).toNat, s.cfg.cfgSize)] : List (Instr × Nat × Nat))) :
    isBlock i = true ∧ rangeFails i s = decide (bound < a0 + s.len.toNat) := by
  simp only [List.mem_cons, List.not_mem_nil, or_false, Prod.mk.injEq] at h
  rcases h with ⟨rfl, rfl, rfl⟩ | ⟨rfl, rfl, rfl⟩ | ⟨rfl, rfl, rfl⟩ | ⟨rfl, rfl, rfl⟩ <;> exact ⟨rfl, rfl⟩

/-- Step BCHK where the range fails unchecked (D13). -/
theorem exec_bchk_refused {s : State} {i : Instr} (hb : s.busy = true) (hs : s.seq = .bchk)
    (hr : rangeFails i s = true) (hc : s.cfg.blockRangeCheck = false) : exec i s = .refused .blockOutOfRange := by
  rw [exec_eq, hr, rangeGuard_refuses hb hs hc]

/-- Settles O25: the three rows of BCHK and its refusal. -/
theorem blockCheckStep : Obligations.BlockCheckStep := by
  intro s i a0 bound first hrow hb hs
  obtain ⟨hi, hr⟩ : isBlock i = true ∧ rangeFails i s = decide (bound < a0 + s.len.toNat) :=
    rangeFails_of_table (by simp only [List.mem_cons, List.not_mem_nil, or_false, Prod.mk.injEq] at hrow ⊢; tauto)
  have hfirst : byteStart i = first := by
    simp only [List.mem_cons, List.not_mem_nil, or_false, Prod.mk.injEq] at hrow
    rcases hrow with ⟨rfl, -, -, rfl⟩ | ⟨rfl, -, -, rfl⟩ | ⟨rfl, -, -, rfl⟩ | ⟨rfl, -, -, rfl⟩ <;> rfl
  refine ⟨fun hf hc => ?_, fun hf hc => ?_, fun hf hlen => ?_, fun hf hlen => ?_⟩
  · exact (OpStep.bchkRange hs hi (by simpa [hr] using hf) hc).exec_next hb
  · exact exec_bchk_refused hb hs (by simpa [hr] using hf) hc
  · exact ⟨_, resultOfAcc_cases _, (OpStep.bchkEmpty hs hi (by simpa [hr] using hf) hlen).exec_next hb⟩
  · exact hfirst ▸ (OpStep.bchk hs hi (by simpa [hr] using hf) hlen).exec_next hb

theorem loadedByte_of_read {s : State} {v : Byte} (h : s.buf.read s.idx.toNat = some v) : s.loadedByte = v := by
  simp only [State.loadedByte, h]

/-- Settles O26: the rows of BLD, BST and BYL. -/
theorem blockBufferSteps : Obligations.BlockBufferSteps := by
  refine fun s hb => ⟨fun i hi hs v hv => ?_, fun i hi hs _ => ⟨s.loadedByte, ?_⟩,
    fun i hi hs => ⟨s.buf.write s.idx.toNat s.data, ?_, Memory.read_write_same _ _ _,
      fun a ha => Memory.read_write_other _ ha _⟩, fun i hi hs => ?_⟩
  · exact loadedByte_of_read hv ▸ (OpStep.bld hs (by simpa using hi)).exec_next hb
  · exact (OpStep.bld hs (by simpa using hi)).exec_next hb
  · exact (OpStep.bst hs (by simpa using hi)).exec_next hb
  · exact (OpStep.byl hs (by simpa using hi)).exec_next hb

/-- Settles O27: the two rows of BNX. -/
theorem blockNextStep : Obligations.BlockNextStep := by
  intro s i first hrow hb hs hlatch _
  obtain ⟨hi, rfl⟩ : isBlock i = true ∧ byteStart i = first := by
    simp only [List.mem_cons, List.not_mem_nil, or_false, Prod.mk.injEq] at hrow
    rcases hrow with ⟨rfl, rfl⟩ | ⟨rfl, rfl⟩ | ⟨rfl, rfl⟩ | ⟨rfl, rfl⟩ <;> exact ⟨rfl, rfl⟩
  refine ⟨fun hlt => ?_, fun heq => ?_⟩
  · rw [(OpStep.bnxAgain hs hi hlt).exec_next hb]
    simp [State.startByte, State.countByte, hlatch]
  · exact (OpStep.bnxLast hs hi (by rw [heq]; bv_omega)).exec_next hb

theorem runOp_refused {s : State} {i : Instr} {n : Nat} {r : Refusal} (h : exec i s = .refused r) :
    runOp i (n + 1) s = .refused r := by
  simp [runOp, h]

/-- Settles O41: the issue, then BCHK. -/
theorem blockRangeAndZeroLength : Obligations.BlockRangeAndZeroLength := by
  intro s i a0 bound hrow hb
  obtain ⟨hi, hr⟩ := rangeFails_of_table hrow
  have hr' : rangeFails i (s.issued i) = decide (bound < a0 + s.len.toNat) := by rw [← hr]; cases i <;> rfl
  have hs : (s.issued i).seq = .bchk := by cases i <;> first | rfl | cases hi
  refine ⟨fun hf hc => ?_, fun hf hc => ?_, fun hf hlen => ?_⟩
  · rw [runOp_succ (exec_idle i hb),
      runOp_succ ((OpStep.bchkRange hs hi (by simpa [hr'] using hf) hc).exec_next rfl), runOp_zero]
    simp [State.issued, State.finish, State.ended]
  · rw [runOp_succ (exec_idle i hb)]
    exact runOp_refused (exec_bchk_refused rfl hs (by simpa [hr'] using hf) hc)
  · refine ⟨_, resultOfAcc_cases (Config.freeZeroLengthOk s.draws), ?_⟩
    rw [runOp_succ (exec_idle i hb),
      runOp_succ ((OpStep.bchkEmpty hs hi (by simpa [hr'] using hf) hlen).exec_next rfl), runOp_zero]
    simp [State.issued, State.finish, State.drawn, State.ended]

end Sys2Proof.Machine
end

section
/-! ERASE, RESET and HANDSHAKE from issue to finish (R130 to R138, R154, R160), and RDTYPE as RDCFG (R111). -/

namespace Sys2Proof.Machine

/-- One row more of a run. -/
theorem OpStep.runOp_succ {s t : State} {i : Instr} {n : Nat} (h : OpStep s i t) (hb : s.busy = true) :
    runOp i (n + 1) s = runOp i n t :=
  Machine.runOp_succ (h.exec_next hb)

/-- Settles O28: a command phase with no address byte ends the operation. -/
theorem eraseFromIssueToFinish : Obligations.EraseFromIssueToFinish := by
  intro s hb
  have hrow : ∀ u : State, (.erase, u.cfg.cmdErase, []) ∈ commandTable u := fun u => by simp [commandTable]
  rw [runOp_succ (exec_idle .erase hb), (OpStep.c0 (s := s.issued .erase) rfl (hrow _)).runOp_succ rfl,
    State.countedStart_goto, (OpStep.c1Bare (s := (s.issued .erase).sent 1 _ _) rfl (hrow _)).runOp_succ rfl,
    State.countedWrite_goto, State.sent_sent, (OpStep.c4Erase (s := (s.issued .erase).sent _ _ _) rfl).runOp_succ rfl,
    State.stopCall_of_seq rfl, State.sent_sent, finishByAcc_issued_sent,
    State.sent_ackAt]
  rfl

/-- Settles O42: both runs are known, and they send the same address byte. -/
theorem rdtypeIsRdcfgOfTheOffset : Obligations.RdtypeIsRdcfgOfTheOffset := by
  intro s hb ha
  refine ⟨_, rdcfgFromIssueToFinish s hb, ?_⟩
  rw [rdtypeFromIssueToFinish s hb, ha]
  rfl

/-! ## The read-request -/

/-- A read-request has been made, its stop included, and the sequencer stands at `l` (R105, D9). -/
def State.requested (s : State) (a : BusAddr) (l : Label) : State :=
  { s with
    acks := s.acks.drop 1, ackDraws := s.ackDraws + 1, reads := s.reads.drop s.requestReads
    byteDraws := s.byteDraws + s.requestReads, trace := s.trace ++ frameRQ s.cfg a (s.ackAt 0) (s.byteAt 0), seq := l }

section Request
variable {s : State} (a : BusAddr) {l l' : Label}

theorem State.requested_bare (hc : s.cfg.rreqReadsByte = false) :
    ((s.startCall a .read).goto l).stopCall = s.requested a l := by
  ext1 <;> simp [State.requested, State.requestReads, frameRQ, hc]

theorem State.requested_reading (hc : s.cfg.rreqReadsByte = true) :
    (((s.startCall a .read).goto l').readCall.goto l).stopCall = s.requested a l := by
  ext1 <;> simp [State.requested, State.requestReads, frameRQ, hc]

/-- RESET from X0 on (R160). -/
theorem runOp_reset (hb : s.busy = true) (hs : s.seq = .x0) :
    runOp .reset (2 + s.requestReads) s = .next ((s.requested s.cfg.addrReset .x1).finish .unverified) := by
  cases hc : s.cfg.rreqReadsByte
  · rw [State.requestReads, hc, ← State.requested_bare _ hc]
    exact ((OpStep.x0 hs hc).runOp_succ hb).trans ((OpStep.x1 rfl).runOp_succ hb)
  · rw [State.requestReads, hc, ← State.requested_reading (l' := .xr) _ hc]
    exact ((OpStep.x0Reading hs hc).runOp_succ hb).trans
      (((OpStep.xr (s := (s.startCall _ .read).goto .xr) rfl).runOp_succ hb).trans ((OpStep.x1 rfl).runOp_succ hb))

/-- HANDSHAKE from H7 on (R130, R134). -/
theorem runOp_handshake_request (hb : s.busy = true) (hs : s.seq = .h7) :
    runOp .handshake (2 + s.requestReads) s =
      .next (((s.requested s.cfg.addrCmd .h8).withHs .acknowledged).finish .ok) := by
  cases hc : s.cfg.rreqReadsByte
  · rw [State.requestReads, hc, ← State.requested_bare _ hc]
    exact ((OpStep.h7 hs hc).runOp_succ hb).trans ((OpStep.h8 rfl).runOp_succ hb)
  · rw [State.requestReads, hc, ← State.requested_reading (l' := .hr) _ hc]
    exact ((OpStep.h7Reading hs hc).runOp_succ hb).trans
      (((OpStep.hr (s := (s.startCall _ .read).goto .hr) rfl).runOp_succ hb).trans ((OpStep.h8 rfl).runOp_succ hb))

end Request

/-- Settles O34: the issue, then the read-request. -/
theorem resetMcuFromIssueToFinish : Obligations.ResetMcuFromIssueToFinish := by
  intro s hb
  have hreads : (s.issued .reset).requestReads = s.requestReads := rfl
  have hrun := runOp_reset (s := s.issued .reset) rfl rfl
  rw [Nat.add_right_comm 2 1, runOp_succ (exec_idle .reset hb), ← hreads, hrun]
  rfl

/-! ## The attempts of HANDSHAKE -/

/-- HANDSHAKE at H2 with `j` attempts made, none acknowledged (R133, R138). -/
def State.attempted (s : State) (j : Nat) : State :=
  { s.issued .handshake with
    hs := .retrying, seq := .h2, att := BitVec.ofNat 4 j, acks := s.acks.drop (j + 1), ackDraws := s.ackDraws + (j + 1)
    trace := s.trace ++ (frameAO s.cfg (s.ackAt 0) ++ (List.replicate j (frameHN s.cfg)).flatten) }

section Attempts
variable {s : State} {j k : Nat}

@[simp] theorem State.attempted_ackAt (s : State) (j k : Nat) : (s.attempted j).ackAt k = s.ackAt (j + 1 + k) :=
  State.ackAt_drop (j + 1) rfl rfl k

@[simp] theorem State.attempted_cfg (s : State) (j : Nat) : (s.attempted j).cfg = s.cfg := rfl

@[simp] theorem State.attempted_trace (s : State) (j : Nat) :
    (s.attempted j).trace =
      s.trace ++ (frameAO s.cfg (s.ackAt 0) ++ (List.replicate j (frameHN s.cfg)).flatten) := rfl

@[simp] theorem State.issued_cfg (s : State) (i : Instr) : (s.issued i).cfg = s.cfg := rfl
@[simp] theorem State.issued_trace (s : State) (i : Instr) : (s.issued i).trace = s.trace := rfl
@[simp] theorem State.issued_ackAt (s : State) (i : Instr) (k : Nat) : (s.issued i).ackAt k = s.ackAt k := rfl

/-- The preamble (R130). -/
theorem runOp_handshake_preamble (hb : s.busy = false) : runOp .handshake 3 s = .next (s.attempted 0) := by
  rw [runOp_succ (exec_idle .handshake hb)]
  refine ((OpStep.h0 rfl).runOp_succ rfl).trans (((OpStep.h1 rfl).runOp_succ rfl).trans ?_)
  rw [runOp_zero]
  congr 1
  ext1
  case trace => simp [frameAO]
  all_goals simp [State.attempted, State.issued]

/-- The state at H3 after an attempt that was not acknowledged (R133). -/
def State.nacked (s : State) (j : Nat) : State :=
  ((s.attempted j).startCall s.cfg.addrReset s.cfg.dirHsReset).countAttempt.goto .h3

theorem opStep_nacked (ha : s.ackAt (j + 1) = false) : OpStep (s.attempted j) .handshake (s.nacked j) :=
  .h2Nacked rfl (by simpa using ha)

theorem State.nacked_att (hj : j < 15) : (s.nacked j).att.toNat = j + 1 := by
  simp [State.nacked, State.attempted]
  omega

/-- After its stop a nacked attempt is one attempt more. -/
theorem State.nacked_stopCall (ha : s.ackAt (j + 1) = false) :
    (s.nacked j).stopCall.goto .h2 = s.attempted (j + 1) := by
  ext1
  case trace => simp [State.nacked, ha, frameHN, List.replicate_succ']
  all_goals simp [State.nacked, State.attempted, BitVec.ofNat_add, Nat.add_assoc]

/-- One attempt not acknowledged, below the bound (R133). -/
theorem runOp_handshake_attempt (hbound : s.cfg.retryBound ≤ 15) (hj : j + 1 < s.cfg.retryBound)
    (ha : s.ackAt (j + 1) = false) : runOp .handshake 2 (s.attempted j) = .next (s.attempted (j + 1)) := by
  have hatt : (s.nacked j).att.toNat < s.cfg.retryBound := by
    rw [State.nacked_att (by omega)]
    exact hj
  rw [(opStep_nacked ha).runOp_succ rfl, (OpStep.h3Again (s := s.nacked j) rfl hatt).runOp_succ rfl,
    State.nacked_stopCall ha, runOp_zero]

/-- The attempts that are not acknowledged, one after the other. -/
theorem runOp_handshake_attempts (hb : s.busy = false) (hbound : s.cfg.retryBound ≤ 15) :
    ∀ j, j < s.cfg.retryBound → (∀ m, 1 ≤ m → m ≤ j → s.ackAt m = false) →
      runOp .handshake (3 + 2 * j) s = .next (s.attempted j)
  | 0, _, _ => runOp_handshake_preamble hb
  | j + 1, hj, ha => by
    rw [Nat.mul_succ, ← Nat.add_assoc,
      runOp_add (runOp_handshake_attempts hb hbound j (by omega) fun m h1 h2 => ha m h1 (by omega))]
    exact runOp_handshake_attempt hbound hj (ha (j + 1) (by omega) le_rfl)

/-- HANDSHAKE at H7 with the attempt after `j` others acknowledged and its two bytes written (R133). -/
def State.unlocked (s : State) (j : Nat) : State :=
  { s.attempted j with
    seq := .h7, att := BitVec.ofNat 4 (j + 1), acks := s.acks.drop (j + 4), ackDraws := s.ackDraws + (j + 4)
    trace := (s.attempted j).trace ++ frameHF s.cfg (s.ackAt (j + 2)) (s.ackAt (j + 3)) }

@[simp] theorem State.unlocked_ackAt (s : State) (j k : Nat) : (s.unlocked j).ackAt k = s.ackAt (j + 4 + k) :=
  State.ackAt_drop (j + 4) rfl rfl k

@[simp] theorem State.unlocked_cfg (s : State) (j : Nat) : (s.unlocked j).cfg = s.cfg := rfl
@[simp] theorem State.unlocked_trace (s : State) (j : Nat) :
    (s.unlocked j).trace = (s.attempted j).trace ++ frameHF s.cfg (s.ackAt (j + 2)) (s.ackAt (j + 3)) := rfl
@[simp] theorem State.unlocked_byteAt (s : State) (j k : Nat) : (s.unlocked j).byteAt k = s.byteAt k := rfl

/-- An attempt acknowledged, and the two bytes after it (R133). -/
theorem runOp_handshake_acked (ha : s.ackAt (j + 1) = true) :
    runOp .handshake 4 (s.attempted j) = .next (s.unlocked j) := by
  have hack : (s.attempted j).ackAt 0 = true := by simpa using ha
  refine ((OpStep.h2Acked rfl hack).runOp_succ rfl).trans (((OpStep.h4 rfl).runOp_succ rfl).trans
    (((OpStep.h5 rfl).runOp_succ rfl).trans (((OpStep.h6 rfl).runOp_succ rfl).trans ?_)))
  rw [runOp_zero]
  congr 1
  ext1
  case trace => simp [ha, frameHF, Nat.add_assoc]
  all_goals simp [State.unlocked, State.attempted, BitVec.ofNat_add, Nat.add_assoc]

end Attempts

/-- Settles O36: the attempts up to the last, which H3 ends. -/
theorem handshakeExhausted : Obligations.HandshakeExhausted := by
  intro s hb hpos hbound ha
  obtain ⟨j, hj⟩ : ∃ j, s.cfg.retryBound = j + 1 := Nat.exists_eq_add_of_le' hpos
  have hatt : s.cfg.retryBound ≤ (s.nacked j).att.toNat := by
    rw [State.nacked_att (by omega), hj]
  have hruns := runOp_handshake_attempts hb hbound j (by omega) fun m h1 h2 => ha m h1 (by omega)
  have hlast : s.ackAt (j + 1) = false := ha _ (by omega) (by omega)
  rw [show 1 + (2 * s.cfg.retryBound + 2) = 3 + 2 * j + 2 by omega, runOp_add hruns,
    (opStep_nacked hlast).runOp_succ rfl, (OpStep.h3Exhausted (s := s.nacked j) rfl hatt).runOp_succ rfl, runOp_zero]
  congr 1
  ext1
  case trace => simp [State.nacked, State.ended, hlast, hj, frameHN, List.replicate_succ']
  all_goals simp [State.nacked, State.attempted, State.issued, State.ended, hj, BitVec.ofNat_add, okIf, Nat.add_assoc]

/-- Settles O35: the attempts before the one acknowledged, its bytes, and the read-request. -/
theorem handshakeAcknowledgedAtAttempt : Obligations.HandshakeAcknowledgedAtAttempt := by
  intro s k hb hbound hpos hk ha hack
  obtain ⟨j, rfl⟩ : ∃ j, k = j + 1 := Nat.exists_eq_add_of_le' hpos
  have hruns := runOp_handshake_attempts hb hbound j (by omega) fun m h1 h2 => ha m h1 (by omega)
  have hreads : (s.unlocked j).requestReads = s.requestReads := rfl
  rw [show 1 + (2 * (j + 1) + 6) + s.requestReads = 3 + 2 * j + (4 + (2 + s.requestReads)) by omega, runOp_add hruns,
    runOp_add (runOp_handshake_acked hack), ← hreads, runOp_handshake_request rfl rfl]
  congr 1
  ext1
  case trace => simp [State.requested, State.ended]
  all_goals simp [State.requested, State.unlocked, State.attempted, State.issued, State.ended, okIf, Nat.add_assoc]

end Sys2Proof.Machine
end

section
/-! A block operation from issue to finish (R190 to R202), as the same run for all four: the issue, BCHK, and for every byte
its steps and BNX. What one byte takes and makes is a `ByteRun`. -/

namespace Sys2Proof.Machine

/-- What the bytes of a block take from the transport and the buffer port, each the same number of replies, and what they
make and leave. -/
structure ByteRun where
  /-- Acknowledges a byte takes. -/
  acks : Nat
  /-- Bytes read a byte takes. -/
  reads : Nat
  /-- Buffer loads of a byte. -/
  loads : Nat
  /-- PASS after a byte. -/
  pass : Bool
  /-- The events of byte `j`. -/
  events : Nat → List Event
  /-- DATA after byte `j`. -/
  data : Nat → Byte
  /-- The buffer after `j` bytes. -/
  buf : Nat → Memory

/-- DATA before byte `j`. -/
def ByteRun.dataBefore (r : ByteRun) (s : State) : Nat → Byte
  | 0 => s.data
  | j + 1 => r.data j

/-- The block issued at `s` with `j` bytes done, byte `j` about to begin (R190). -/
def ByteRun.start (r : ByteRun) (s : State) (i : Instr) (j : Nat) : State :=
  { s.issued i with
    acks := s.acks.drop (r.acks * j), ackDraws := s.ackDraws + r.acks * j, reads := s.reads.drop (r.reads * j)
    byteDraws := s.byteDraws + r.reads * j, draws := s.draws + r.loads * j
    trace := s.trace ++ (List.range j).flatMap r.events, data := r.dataBefore s j, idx := BitVec.ofNat 16 j
    buf := r.buf j, seq := byteStart i }

/-- The same with byte `j` done too and not yet counted (R190). -/
def ByteRun.done (r : ByteRun) (s : State) (i : Instr) (j : Nat) : State :=
  { r.start s i (j + 1) with
    idx := BitVec.ofNat 16 j, acc := s.allAcked (r.acks * j) r.acks, pass := r.pass, seq := .bnx }

/-- The block ended after `n` bytes, the last of which decides the result (R193). -/
def ByteRun.ended (r : ByteRun) (s : State) (i : Instr) (n : Nat) : State :=
  { s.ended i (r.acks * n) (r.reads * n) (s.allAcked (r.acks * (n - 1)) r.acks) ((List.range n).flatMap r.events) with
    data := r.data (n - 1), idx := s.len, buf := r.buf n, draws := s.draws + r.loads * n, pass := r.pass }

/-! What the runs read of these states. -/

section Reading
variable (r : ByteRun) (s : State) (i : Instr) (j k n : Nat)

@[simp] theorem ByteRun.start_cfg : (r.start s i j).cfg = s.cfg := rfl
@[simp] theorem ByteRun.start_acc : (r.start s i j).acc = true := rfl
@[simp] theorem ByteRun.start_idx : (r.start s i j).idx = BitVec.ofNat 16 j := rfl
@[simp] theorem ByteRun.start_buf : (r.start s i j).buf = r.buf j := rfl
@[simp] theorem ByteRun.start_trace : (r.start s i j).trace = s.trace ++ (List.range j).flatMap r.events := rfl
@[simp] theorem ByteRun.start_acks : (r.start s i j).acks = s.acks.drop (r.acks * j) := rfl
@[simp] theorem ByteRun.start_ackDraws : (r.start s i j).ackDraws = s.ackDraws + r.acks * j := rfl
@[simp] theorem ByteRun.start_reads : (r.start s i j).reads = s.reads.drop (r.reads * j) := rfl
@[simp] theorem ByteRun.start_byteDraws : (r.start s i j).byteDraws = s.byteDraws + r.reads * j := rfl
@[simp] theorem ByteRun.start_draws : (r.start s i j).draws = s.draws + r.loads * j := rfl
@[simp] theorem ByteRun.start_data_succ : (r.start s i (j + 1)).data = r.data j := rfl
@[simp] theorem ByteRun.start_ackAt : (r.start s i j).ackAt k = s.ackAt (r.acks * j + k) :=
  State.ackAt_drop _ rfl rfl k
@[simp] theorem ByteRun.start_byteAt : (r.start s i j).byteAt k = s.byteAt (r.reads * j + k) :=
  State.byteAt_drop _ rfl rfl k
@[simp] theorem ByteRun.start_allAcked : (r.start s i j).allAcked k n = s.allAcked (r.acks * j + k) n := by
  simp [State.allAcked, Nat.add_assoc]

end Reading

section Block
variable {s : State} {i : Instr} {r : ByteRun} {n j c : Nat}

theorem idx_lt_len (hlen : s.len.toNat = n) (hj : j < n) : BitVec.ofNat 16 j < s.len := by
  rw [BitVec.lt_def, hlen, BitVec.toNat_ofNat]
  exact (Nat.mod_le _ _).trans_lt hj

theorem ofNat_succ (j : Nat) : BitVec.ofNat 16 j + 1 = BitVec.ofNat 16 (j + 1) := by
  simp [BitVec.ofNat_add]

/-- The next byte begins with ACC at 1 and PASS at 0 (R190, R193). -/
theorem ByteRun.done_startByte (hlatch : s.cfg.blockLatch = false) :
    (r.done s i j).countByte.startByte (byteStart i) = r.start s i (j + 1) := by
  ext1
  case acc => simp [ByteRun.done, ByteRun.start, State.startByte, State.countByte, State.issued, hlatch]
  case idx => exact ofNat_succ j
  all_goals rfl

/-- After the last byte the block finishes by ACC. -/
theorem ByteRun.done_finish (hlen : s.len.toNat = j + 1) :
    (r.done s i j).countByte.finishByAcc = r.ended s i (j + 1) := by
  ext1
  case idx => exact (ofNat_succ j).trans (by rw [← hlen, BitVec.ofNat_toNat, BitVec.setWidth_eq]; rfl)
  all_goals rfl

/-- The issue and BCHK (R190 to R192). -/
theorem runOp_block_start (hi : isBlock i = true) (hb : s.busy = false) (hr : rangeFails i s = false) (hlen : s.len ≠ 0)
    (hbuf : r.buf 0 = s.buf) : runOp i 2 s = .next (r.start s i 0) := by
  have hr' : rangeFails i (s.issued i) = false := by cases i <;> exact hr
  have hs : (s.issued i).seq = .bchk := by cases i <;> first | rfl | cases hi
  rw [runOp_succ (exec_idle i hb), (OpStep.bchk hs hi hr' hlen).runOp_succ rfl, runOp_zero]
  congr 1
  ext1
  case buf => exact hbuf.symm
  case trace => exact (List.append_nil _).symm
  all_goals rfl

/-- Every byte but the last ends at the next byte. -/
theorem runOp_block_bytes (hi : isBlock i = true) (hlatch : s.cfg.blockLatch = false) (hlen : s.len.toNat = n)
    (hbyte : ∀ j, j < n → runOp i c (r.start s i j) = .next (r.done s i j)) :
    ∀ j, j < n → runOp i ((c + 1) * j) (r.start s i 0) = .next (r.start s i j)
  | 0, _ => rfl
  | j + 1, hj => by
    have hlt : (r.done s i j).idx + 1 < (r.done s i j).len := by
      rw [show (r.done s i j).idx = BitVec.ofNat 16 j from rfl, ofNat_succ]
      exact idx_lt_len hlen hj
    rw [Nat.mul_succ, runOp_add (runOp_block_bytes hi hlatch hlen hbyte j (by omega)), runOp_add (hbyte j (by omega)),
      (OpStep.bnxAgain (s := r.done s i j) rfl hi hlt).runOp_succ rfl, ByteRun.done_startByte hlatch, runOp_zero]

/-- A block of at least one byte whose range passes (R190). -/
theorem runOp_block (hi : isBlock i = true) (hb : s.busy = false) (hlatch : s.cfg.blockLatch = false)
    (hlen : s.len.toNat = n) (hn : 1 ≤ n) (hr : rangeFails i s = false) (hbuf : r.buf 0 = s.buf)
    (hbyte : ∀ j, j < n → runOp i c (r.start s i j) = .next (r.done s i j)) :
    runOp i (2 + (c + 1) * n) s = .next (r.ended s i n) := by
  obtain ⟨j, rfl⟩ : ∃ j, n = j + 1 := Nat.exists_eq_add_of_le' hn
  have hpos : s.len ≠ 0 := by rintro h; simp [h] at hlen
  have hlast : ¬ (r.done s i j).idx + 1 < (r.done s i j).len := by
    rw [show (r.done s i j).idx = BitVec.ofNat 16 j from rfl, ofNat_succ, ← hlen]
    simp [ByteRun.done, ByteRun.start, State.issued]
  rw [runOp_add (runOp_block_start hi hb hr hpos hbuf), Nat.mul_succ,
    runOp_add (runOp_block_bytes hi hlatch hlen hbyte j (by omega)), runOp_add (hbyte j (by omega)),
    (OpStep.bnxLast (s := r.done s i j) rfl hi hlast).runOp_succ rfl, ByteRun.done_finish hlen, runOp_zero]

end Block

/-! ## The bytes of a block read -/

/-- A block read whose byte `j` has the command phase `cmd j` of `m` counted steps (R196, R198). -/
def readRun (s : State) (m : Nat) (cmd : Nat → List Event) : ByteRun where
  acks := m + 1
  reads := 1
  loads := 0
  pass := false
  events j :=
    cmd j ++ frameDR s.cfg (s.ackAt ((m + 1) * j + m)) (s.byteAt j) ++
      [.bufWrite (BitVec.ofNat 16 j) (s.byteAt j), .yield]
  data := s.byteAt
  buf j := (List.range j).foldl (fun b k => b.write k (s.byteAt k)) s.buf

section Received
variable (s : State) (k n : Nat)

@[simp] theorem State.received_acks : s.received.acks = s.acks := rfl
@[simp] theorem State.received_ackDraws : s.received.ackDraws = s.ackDraws := rfl
@[simp] theorem State.received_reads : s.received.reads = s.reads.drop 1 := rfl
@[simp] theorem State.received_byteDraws : s.received.byteDraws = s.byteDraws + 1 := rfl
@[simp] theorem State.received_data : s.received.data = s.byteAt 0 := rfl
@[simp] theorem State.received_acc : s.received.acc = s.acc := rfl
@[simp] theorem State.received_idx : s.received.idx = s.idx := rfl
@[simp] theorem State.received_buf : s.received.buf = s.buf := rfl
@[simp] theorem State.received_trace : s.received.trace = s.trace := rfl
@[simp] theorem State.received_allAcked : s.received.allAcked k n = s.allAcked k n := rfl

end Received

section Read
variable {s : State} {i : Instr} {p : Prim} {m c j : Nat} {cmd : Nat → List Event}

/-- After its data phase a byte of a block read is stored and followed by a yield (R194). -/
theorem runOp_storeAndYield {s : State} (hi : i = .rdfblk ∨ i = .rdcblk) (hb : s.busy = true) :
    runOp i 2 (thenStore s) = .next ((((thenStore s).storeCall.goto .byl).yieldCall).goto .bnx) := by
  rw [(OpStep.bst (s := thenStore s) rfl hi).runOp_succ hb,
    (OpStep.byl (s := (thenStore s).storeCall.goto .byl) rfl hi).runOp_succ hb, runOp_zero]

theorem runOp_readByte (hi : i = .rdfblk ∨ i = .rdcblk) (hj : j < 65536)
    (hp : ((readRun s m cmd).start s i j).primOf i = some p) (hd : p.data = .read)
    (hcmd : runOp i c ((readRun s m cmd).start s i j) = .next (((readRun s m cmd).start s i j).sent m (cmd j) .d0)) :
    runOp i (c + 3 + 2) ((readRun s m cmd).start s i j) = .next ((readRun s m cmd).done s i j) := by
  have hend : primEnd i = thenStore := by rcases hi with rfl | rfl <;> rfl
  rw [runOp_add (runOp_primitive_read hp rfl hcmd hd), hend, runOp_storeAndYield hi rfl]
  congr 1
  ext1
  case trace => simp [thenStore, ByteRun.done, readRun, State.sent, List.range_succ]
  case buf => simp [thenStore, ByteRun.done, readRun, State.sent, List.range_succ, Nat.mod_eq_of_lt hj]
  case acks | ackDraws | reads | byteDraws | data | acc =>
    simp [thenStore, ByteRun.done, readRun, State.sent, Nat.mul_succ, Nat.add_assoc]
  all_goals rfl

/-- What the run of a block read ends in, as the statements write it. -/
theorem readRun_ended (s : State) (i : Instr) (m : Nat) (cmd : Nat → List Event) (n : Nat) :
    (readRun s m cmd).ended s i n =
      { s.ended i ((m + 1) * n) n (s.allAcked ((m + 1) * (n - 1)) (m + 1))
          ((List.range n).flatMap (readRun s m cmd).events) with
        data := s.byteAt (n - 1), idx := s.len
        buf := (List.range n).foldl (fun b k => b.write k (s.byteAt k)) s.buf } := by
  ext1
  case reads | byteDraws | draws => simp [ByteRun.ended, readRun, State.ended]
  all_goals rfl

end Read

/-! ## The bytes of a block write -/

/-- A block write whose byte `j` is loaded and then has `m` counted steps, their events `body j` (R197, R199). -/
def writeRun (s : State) (m : Nat) (pass : Bool) (body : Nat → List Event) : ByteRun where
  acks := m
  reads := 0
  loads := 1
  pass := pass
  events j := [.bufRead (BitVec.ofNat 16 j) (s.bufferByte j)] ++ body j
  data := s.bufferByte
  buf _ := s.buf

section Write
variable {s : State} {i : Instr} {m n j : Nat} {pass : Bool} {body : Nat → List Event}

/-- The byte a block write loads at index `j` (R195). -/
theorem writeRun_loadedByte (hj : j < 65536) :
    ((writeRun s m pass body).start s i j).loadedByte = s.bufferByte j := by
  simp [State.loadedByte, State.bufferByte, writeRun, Nat.mod_eq_of_lt hj]
  cases s.buf.read j <;> rfl

/-- Byte `j` of a block write after its load, in pass `p` (R190). -/
def State.loadedAt (s : State) (i : Instr) (m : Nat) (pass : Bool) (body : Nat → List Event) (j : Nat) (p : Bool) :
    State :=
  { (writeRun s m pass body).start s i j with
    draws := s.draws + (j + 1), data := s.bufferByte j, pass := p, seq := .c0
    trace := s.trace ++ ((List.range j).flatMap (writeRun s m pass body).events ++
      [.bufRead (BitVec.ofNat 16 j) (s.bufferByte j)]) }

section Loaded
variable (s : State) (i : Instr) (m : Nat) (pass : Bool) (body : Nat → List Event) (j : Nat) (p : Bool) (k n : Nat)

@[simp] theorem State.loadedAt_cfg : (s.loadedAt i m pass body j p).cfg = s.cfg := rfl
@[simp] theorem State.loadedAt_acc : (s.loadedAt i m pass body j p).acc = true := rfl
@[simp] theorem State.loadedAt_acks : (s.loadedAt i m pass body j p).acks = s.acks.drop (m * j) := rfl
@[simp] theorem State.loadedAt_ackDraws : (s.loadedAt i m pass body j p).ackDraws = s.ackDraws + m * j := rfl
@[simp] theorem State.loadedAt_draws : (s.loadedAt i m pass body j p).draws = s.draws + (j + 1) := rfl
@[simp] theorem State.loadedAt_trace :
    (s.loadedAt i m pass body j p).trace =
      s.trace ++ ((List.range j).flatMap (writeRun s m pass body).events ++
        [.bufRead (BitVec.ofNat 16 j) (s.bufferByte j)]) := rfl
@[simp] theorem State.loadedAt_ackAt : (s.loadedAt i m pass body j p).ackAt k = s.ackAt (m * j + k) :=
  State.ackAt_drop _ rfl rfl k
@[simp] theorem State.loadedAt_allAcked :
    (s.loadedAt i m pass body j p).allAcked k n = s.allAcked (m * j + k) n := by
  simp [State.allAcked, Nat.add_assoc]
theorem State.loadedAt_wrcfgPass (a d : Byte) :
    (s.loadedAt i m pass body j p).wrcfgPass a d k = s.wrcfgPass a d (m * j + k) := by
  simp [State.wrcfgPass, Nat.add_assoc]

end Loaded

theorem opStep_load (hi : i = .wrfblk ∨ i = .wrcblk) (hj : j < 65536) :
    OpStep ((writeRun s m pass body).start s i j) i (s.loadedAt i m pass body j false) := by
  have hs : ((writeRun s m pass body).start s i j).seq = .bld := by rcases hi with rfl | rfl <;> rfl
  have hload := writeRun_loadedByte (s := s) (i := i) (m := m) (pass := pass) (body := body) hj
  have heq : s.loadedAt i m pass body j false =
      (((writeRun s m pass body).start s i j).loadCall.withData
        ((writeRun s m pass body).start s i j).loadedByte).goto .c0 := by
    ext1
    case trace => simp [hload]
    case data => exact hload.symm
    case draws => simp [State.loadedAt, writeRun, Nat.add_assoc]
    all_goals rfl
  exact heq ▸ .bld hs hi

/-- Its counted steps made, byte `j` is done but for the count. -/
theorem writeRun_done :
    thenNext ((s.loadedAt i m pass body j pass).sent m (body j) .d2) = (writeRun s m pass body).done s i j := by
  ext1
  case trace => simp [thenNext, ByteRun.done, State.sent, List.range_succ]; rfl
  case acks | ackDraws | acc | draws =>
    simp [thenNext, ByteRun.done, State.sent, writeRun, Nat.mul_succ, Nat.add_assoc]
  all_goals rfl

/-- What the run of a block write ends in, as the statements write it. -/
theorem writeRun_ended (s : State) (i : Instr) (m : Nat) (pass : Bool) (body : Nat → List Event) (n : Nat) :
    (writeRun s m pass body).ended s i n =
      { s.ended i (m * n) 0 (s.allAcked (m * (n - 1)) m) ((List.range n).flatMap (writeRun s m pass body).events) with
        data := s.bufferByte (n - 1), idx := s.len, draws := s.draws + n, pass := pass } := by
  ext1
  case reads | byteDraws | draws => simp [ByteRun.ended, writeRun, State.ended]
  all_goals rfl

end Write

/-! ## The four runs -/

/-- The config address of byte `j` (R201). -/
theorem blockCfgAddr_eq {s u : State} {j : Nat} (ha : u.addr = s.addr) (hi : u.idx = BitVec.ofNat 16 j) :
    u.blockCfgAddr = s.cfgAddrOf j := by
  rw [State.blockCfgAddr, ha, hi, lowByte_ofNat]
  rfl

/-- The command phase of byte `j` of RDFBLK (R196). -/
def State.rdfblkCommand (s : State) (j : Nat) : List Event :=
  frameCF2 s.cfg s.cfg.cmdRdflash (s.flashAddrOf j) (s.ackAt (5 * j)) (s.ackAt (5 * j + 1)) (s.ackAt (5 * j + 2))
    (s.ackAt (5 * j + 3))

/-- The command phase of byte `j` of RDCBLK (R198). -/
def State.rdcblkCommand (s : State) (j : Nat) : List Event :=
  frameCF1 s.cfg s.cfg.cmdRdcfg (s.cfgAddrOf j) (s.ackAt (4 * j)) (s.ackAt (4 * j + 1)) (s.ackAt (4 * j + 2))

/-- Byte `j` of WRFBLK after its load (R197). -/
def State.wrfblkBody (s : State) (j : Nat) : List Event :=
  frameCF2 s.cfg s.cfg.cmdWrflash (s.flashAddrOf j) (s.ackAt (6 * j)) (s.ackAt (6 * j + 1)) (s.ackAt (6 * j + 2))
      (s.ackAt (6 * j + 3)) ++
    frameDW s.cfg (s.bufferByte j) (s.ackAt (6 * j + 4)) (s.ackAt (6 * j + 5))

/-- Byte `j` of WRCBLK after its load (R199). -/
def State.wrcblkBody (s : State) (j : Nat) : List Event :=
  s.wrcfgPass (s.cfgAddrOf j) (s.bufferByte j) (10 * j) ++ s.wrcfgPass (s.cfgAddrOf j) (s.bufferByte j) (10 * j + 5)

/-- Settles O37: five counted steps and one byte read for every byte. -/
theorem rdfblkFromIssueToFinish : Obligations.RdfblkFromIssueToFinish := by
  intro s n hb hlatch hlen hn hr
  have hbyte : ∀ j, j < n → runOp .rdfblk 10 ((readRun s 4 s.rdfblkCommand).start s .rdfblk j) =
      .next ((readRun s 4 s.rdfblkCommand).done s .rdfblk j) := by
    intro j hj
    have hcmd := runOp_commandPhase_flash (s := (readRun s 4 s.rdfblkCommand).start s .rdfblk j) (i := .rdfblk) rfl rfl rfl
      DataPhase.noConfusion rfl
    simp only [ByteRun.start_ackAt] at hcmd
    exact runOp_readByte (.inl rfl) (by omega) rfl rfl hcmd
  have hrange : rangeFails .rdfblk s = false := by simpa [rangeFails, State.flashRangeFails, hlen] using hr
  rw [runOp_block rfl hb hlatch hlen hn hrange rfl hbyte, readRun_ended]
  rfl

/-- Settles O39: four counted steps and one byte read for every byte. -/
theorem rdcblkFromIssueToFinish : Obligations.RdcblkFromIssueToFinish := by
  intro s n hb hlatch hlen hn hr
  have hbyte : ∀ j, j < n → runOp .rdcblk 9 ((readRun s 3 s.rdcblkCommand).start s .rdcblk j) =
      .next ((readRun s 3 s.rdcblkCommand).done s .rdcblk j) := by
    intro j hj
    have ha : ((readRun s 3 s.rdcblkCommand).start s .rdcblk j).blockCfgAddr = s.cfgAddrOf j := blockCfgAddr_eq rfl rfl
    have hcmd := runOp_commandPhase_one (s := (readRun s 3 s.rdcblkCommand).start s .rdcblk j) (i := .rdcblk) rfl rfl rfl
      DataPhase.noConfusion rfl
    simp only [ByteRun.start_ackAt, ha] at hcmd
    exact runOp_readByte (.inr rfl) (by omega) rfl rfl hcmd
  have hrange : rangeFails .rdcblk s = false := by simpa [rangeFails, State.cfgRangeFails, lowByte, hlen] using hr
  rw [runOp_block rfl hb hlatch hlen hn hrange rfl hbyte, readRun_ended]
  rfl

/-- Settles O38: a load and six counted steps for every byte. -/
theorem wrfblkFromIssueToFinish : Obligations.WrfblkFromIssueToFinish := by
  intro s n hb hlatch hlen hn hr
  have hbyte : ∀ j, j < n → runOp .wrfblk 9 ((writeRun s 6 false s.wrfblkBody).start s .wrfblk j) =
      .next ((writeRun s 6 false s.wrfblkBody).done s .wrfblk j) := by
    intro j hj
    have hj' : j < 65536 := by omega
    have hcmd := runOp_commandPhase_flash (s := s.loadedAt .wrfblk 6 false s.wrfblkBody j false) (i := .wrfblk) rfl rfl rfl
      DataPhase.noConfusion rfl
    rw [(opStep_load (.inl rfl) hj').runOp_succ rfl,
      runOp_primitive_write (i := .wrfblk) (n := 5) rfl rfl hcmd rfl, ← writeRun_done]
    simp only [State.loadedAt_ackAt]
    rfl
  have hrange : rangeFails .wrfblk s = false := by simpa [rangeFails, State.flashRangeFails, hlen] using hr
  rw [runOp_block rfl hb hlatch hlen hn hrange rfl hbyte, writeRun_ended]
  rfl

/-- Settles O40: a load and twice five counted steps for every byte. -/
theorem wrcblkFromIssueToFinish : Obligations.WrcblkFromIssueToFinish := by
  intro s n hb hlatch hlen hn hr
  have hbyte : ∀ j, j < n → runOp .wrcblk 15 ((writeRun s 10 true s.wrcblkBody).start s .wrcblk j) =
      .next ((writeRun s 10 true s.wrcblkBody).done s .wrcblk j) := by
    intro j hj
    have hj' : j < 65536 := by omega
    have ha : (s.loadedAt .wrcblk 10 true s.wrcblkBody j false).blockCfgAddr = s.cfgAddrOf j := blockCfgAddr_eq rfl rfl
    rw [(opStep_load (.inr rfl) hj').runOp_succ rfl,
      runOp_wrcfgPass_twice (i := .wrcblk) (congrArg (fun a => some (State.wrcfgPrim _ a)) ha) rfl rfl rfl rfl,
      ← writeRun_done]
    simp only [State.loadedAt_wrcfgPass]
    rfl
  have hrange : rangeFails .wrcblk s = false := by simpa [rangeFails, State.cfgRangeFails, lowByte, hlen] using hr
  rw [runOp_block rfl hb hlatch hlen hn hrange rfl hbyte, writeRun_ended]
  rfl

end Sys2Proof.Machine
end

section
/-! Termination (R233, R264): the steps left of a running operation, which every row makes fewer, and the run of the machine
to its end. -/

namespace Sys2Proof.Machine

/-! ## The steps left -/

/-- 1 for an operation whose address is in the flash, so that it sends a second address byte (R106, R151). -/
def secondAddrByte : Instr → Nat
  | .wrflash | .rdflash | .wrfblk | .rdfblk => 1
  | _ => 0

/-- The steps of a second pass that is still to come (R157). -/
def secondPassSteps (i : Instr) (pass : Bool) : Nat :=
  match i with
  | .wrcfg | .wrcblk => if pass then 0 else 7
  | _ => 0

/-- The steps of a byte of a block after its data phase (R190). -/
def afterDataSteps : Instr → Nat
  | .rdfblk | .rdcblk => 3
  | .wrfblk | .wrcblk => 1
  | _ => 0

/-- The steps after the pass that is under way. -/
def afterPassSteps (i : Instr) (pass : Bool) : Nat := secondPassSteps i pass + afterDataSteps i

/-- The most steps operation `i` takes from a label of a byte to the end of that byte (R151 to R153, R190). -/
def byteLeft (i : Instr) (pass : Bool) : Label → Nat
  | .bld => 8 + secondAddrByte i + afterPassSteps i pass
  | .c0 => 7 + secondAddrByte i + afterPassSteps i pass
  | .c1 => 6 + secondAddrByte i + afterPassSteps i pass
  | .c2 => 5 + secondAddrByte i + afterPassSteps i pass
  | .c3 => 5 + afterPassSteps i pass
  | .c4 => 4 + afterPassSteps i pass
  | .d0 => 3 + afterPassSteps i pass
  | .d1 => 2 + afterPassSteps i pass
  | .d2 => 1 + afterPassSteps i pass
  | .bst => 3
  | .byl => 2
  | _ => 1

/-- The most steps operation `i`, running at `s`, takes to its end: an attempt of HANDSHAKE takes two (R133), a byte of a
block at most 16 (R190). -/
def stepsLeft (i : Instr) (s : State) : Nat :=
  match s.seq with
  | .idle => 0
  | .h0 => 2 * (s.cfg.retryBound + 1 - s.att.toNat) + 7
  | .h1 => 2 * (s.cfg.retryBound + 1 - s.att.toNat) + 6
  | .h2 => 2 * (s.cfg.retryBound + 1 - s.att.toNat) + 5
  | .h3 => 2 * (s.cfg.retryBound + 1 - s.att.toNat) + 6
  | .h4 => 6
  | .h5 => 5
  | .h6 => 4
  | .h7 => 3
  | .hr => 2
  | .h8 => 1
  | .x0 => 3
  | .xr => 2
  | .x1 => 1
  | .bchk => 1 + 16 * s.len.toNat
  | l => byteLeft i s.pass l + 16 * (s.len.toNat - (s.idx.toNat + 1))

section Measure
variable {s t : State} {i : Instr}

/-- A byte of a block takes at most 16 steps. -/
theorem byteLeft_byteStart_le (i : Instr) (pass : Bool) : byteLeft i pass (byteStart i) ≤ 16 := by
  cases i <;> cases pass <;> decide

/-- A row with two address bytes is of an operation on the flash. -/
theorem secondAddrByte_of_row {cmd b c : Byte} {bs : List Byte} (hrow : (i, cmd, b :: c :: bs) ∈ commandTable s) :
    secondAddrByte i = 1 := by
  obtain ⟨p, hp, -, ha, -⟩ := primOf_of_commandTable hrow
  cases i <;> cases hp <;>
    first | rfl | simp [State.erasePrim, State.rdcfgPrim, State.wrcfgPrim] at ha

theorem stepsLeft_byteStart_le (hs : s.seq = byteStart i) :
    stepsLeft i s ≤ 16 + 16 * (s.len.toNat - (s.idx.toNat + 1)) := by
  have hle := byteLeft_byteStart_le i s.pass
  rcases byteStart_cases i with hl | hl <;>
  · rw [hl] at hs hle
    simpa [stepsLeft, hs] using hle

theorem three_le_afterPassSteps (hi : i = .rdfblk ∨ i = .rdcblk) (pass : Bool) : 3 ≤ afterPassSteps i pass := by
  rcases hi with rfl | rfl <;> exact Nat.le_add_left 3 _

/-- Every step makes the steps left fewer. `hatt`: an attempt is the first or is begun below the bound; `hidx`: so is a byte
of a block below LEN. -/
theorem OpStep.stepsLeft_lt (h : OpStep s i t) (hbound : s.cfg.retryBound ≤ 15)
    (hatt : s.seq = .h2 → s.att = 0 ∨ s.att.toNat < s.cfg.retryBound)
    (hidx : isBlock i = true → s.seq ≠ .bchk → s.idx < s.len) : stepsLeft i t < stepsLeft i s := by
  cases h with
  | h2Acked hs | h2Nacked hs =>
    have hle : s.att.toNat ≤ s.cfg.retryBound ∧ s.att.toNat < 15 := by
      rcases hatt hs with h0 | hlt
      · simp [h0]
      · omega
    simp [stepsLeft, hs]
    omega
  | bchk hs _ _ hlen =>
    have hpos : 0 < s.len.toNat := by bv_omega
    refine (stepsLeft_byteStart_le (State.goto_seq _ _)).trans_lt ?_
    simp [stepsLeft, hs]
    omega
  | bnxAgain hs hi hlt =>
    have hin : s.idx < s.len := hidx hi (by simp [hs])
    have hmore : (s.idx + 1).toNat = s.idx.toNat + 1 ∧ s.idx.toNat + 1 < s.len.toNat := by bv_omega
    refine (stepsLeft_byteStart_le (by simp)).trans_lt ?_
    simp only [stepsLeft, hs, byteLeft, State.startByte_idx, State.startByte_len, State.countByte_idx,
      State.countByte_len, hmore.1]
    omega
  | d2First hs hi hpass =>
    rcases hi with rfl | rfl <;>
      simp [stepsLeft, byteLeft, hs, hpass, secondAddrByte, afterPassSteps, secondPassSteps]
  | d2Wrcblk hs | d2Wrfblk hs => simp [stepsLeft, byteLeft, hs, afterPassSteps, afterDataSteps]
  | d2Rdblk hs hi =>
    have hthree := three_le_afterPassSteps hi s.pass
    simp [stepsLeft, byteLeft, hs]
    omega
  | c2 hs hrow => simp [stepsLeft, byteLeft, hs, secondAddrByte_of_row hrow]
  | c1Bare hs | c2Only hs =>
    simp [stepsLeft, byteLeft, hs]
    omega
  | _ => simp [stepsLeft, byteLeft, ‹s.seq = _›]

end Measure

/-! ## The run to the end -/

/-- Operation `i` is under way, its calls return and the host makes no further move. -/
structure Running (i : Instr) (s : State) : Prop where
  busy : s.busy = true
  opc : s.opc = encode i
  at_step : hasStep i s.seq = true
  script : s.script = []
  returns : s.stalled = false
  checked : rangeFails i s = true → s.cfg.blockRangeCheck = true
  bound : s.cfg.retryBound ≤ 15
  att_zero : s.seq = .h0 ∨ s.seq = .h1 → s.att = 0
  att_lt : s.seq = .h2 → s.att = 0 ∨ s.att.toNat < s.cfg.retryBound
  idx_zero : s.seq = .bchk → s.idx = 0
  in_block : isBlock i = true → s.seq ≠ .bchk → s.idx < s.len

section Run
variable {s t : State} {i : Instr}

/-- HANDSHAKE begins its first attempt with none counted, and another below the bound (R130, R133). -/
theorem OpStep.att_zero_or_lt (h : OpStep s i t) (hz : s.seq = .h0 ∨ s.seq = .h1 → s.att = 0) (hl : t.seq = .h2) :
    t.att = 0 ∨ t.att.toNat < t.cfg.retryBound := by
  cases h with
  | h1 hs => exact .inl (hz (.inr hs))
  | h3Again _ hatt => exact .inr hatt
  | _ => simp at hl

theorem Running.of_opStep (hrun : Running i s) (h : OpStep s i t) (hb : t.busy = true) : Running i t where
  busy := hb
  opc := h.opc_eq.trans hrun.opc
  at_step := h.hasStep_seq hb
  script := h.script_eq.trans hrun.script
  returns := h.stalled_eq.trans hrun.returns
  checked := by
    rw [h.rangeFails_eq, h.cfg_eq]
    exact hrun.checked
  bound := by
    rw [h.cfg_eq]
    exact hrun.bound
  att_zero := h.att_zero hrun.att_zero
  att_lt := h.att_zero_or_lt hrun.att_zero
  idx_zero := fun hl => absurd hl h.seq_ne_bchk
  in_block := fun hi _ => h.idx_lt hrun.idx_zero (hrun.in_block hi) hb

/-- A turn of the machine is a row of the operation that is under way. -/
theorem Running.step_eq (hrun : Running i s) : ∃ t, step s = .next t ∧ OpStep s i t := by
  obtain ⟨t, ht⟩ := OpStep.exists_of_hasStep hrun.at_step fun _ => hrun.checked
  have hstuck : s.stuck = false := by simp [State.stuck, hrun.returns]
  have hd : decode s.opc = .op i := by rw [hrun.opc, decode_encode]
  refine ⟨t, ?_, ht⟩
  rw [step_of_script_nil hrun.script, sequencerTurn_busy hrun.busy hstuck hd, ht.exec_next hrun.busy]

/-- The end of a run: idle, with a result, the operation in OPC and no move left. -/
def Finished (i : Instr) (t : State) : Prop :=
  t.script = [] ∧ t.busy = false ∧ t.res ≠ .none ∧ t.opc = encode i

/-- An operation under way is finished within the steps left to it. -/
theorem Running.terminates {m : Nat} (hrun : Running i s) (hm : stepsLeft i s ≤ m) :
    ∃ n t, 1 ≤ n ∧ n ≤ m ∧ core.run n s = .next t ∧ Finished i t := by
  induction m generalizing s with
  | zero =>
    obtain ⟨t, -, h⟩ := hrun.step_eq
    exact absurd (h.stepsLeft_lt hrun.bound hrun.att_lt hrun.in_block) (by omega)
  | succ m ih =>
    obtain ⟨t, hstep, h⟩ := hrun.step_eq
    have hlt := h.stepsLeft_lt hrun.bound hrun.att_lt hrun.in_block
    cases hb : t.busy with
    | false =>
      refine ⟨1, t, le_rfl, Nat.le_add_left 1 m, core_run_succ hstep, ?_⟩
      exact ⟨h.script_eq.trans hrun.script, hb, h.res_ne_none hrun.busy hb, h.opc_eq.trans hrun.opc⟩
    | true =>
      obtain ⟨n, u, hpos, hn, hu, hfin⟩ := ih (hrun.of_opStep h hb) (by omega)
      exact ⟨n + 1, u, Nat.le_add_left 1 n, Nat.succ_le_succ hn, (core_run_succ hstep).trans hu, hfin⟩

/-- A block begins with its check (R190). -/
theorem firstStep_block (hi : isBlock i = true) : firstStep i = .bchk := by cases i <;> first | rfl | cases hi

/-- Right after the issue the operation is under way (R21). -/
theorem running_issued (hs : s.script = []) (hr : s.stalled = false) (hbound : s.cfg.retryBound ≤ 15)
    (hc : rangeFails i s = true → s.cfg.blockRangeCheck = true) : Running i (s.issued i) where
  busy := rfl
  opc := rfl
  at_step := by cases i <;> rfl
  script := hs
  returns := hr
  checked := by cases i <;> exact hc
  bound := hbound
  att_zero := fun _ => rfl
  att_lt := fun _ => .inl rfl
  idx_zero := fun _ => rfl
  in_block := fun hi hl => absurd (firstStep_block hi) hl

theorem stepsLeft_issued_le (s : State) (i : Instr) :
    stepsLeft i (s.issued i) ≤ 14 + 2 * s.cfg.retryBound + 16 * s.len.toNat := by
  cases i <;>
    simp [stepsLeft, State.issued, firstStep, byteLeft, secondAddrByte, afterPassSteps, secondPassSteps,
      afterDataSteps] <;>
    omega

end Run

/-- Settles O43: the issue, and the steps left after it, whose number falls with every turn. -/
theorem everyOperationTerminates : Obligations.EveryOperationTerminates := by
  intro s i hb hr hbound hc hs
  have hrun : Running i ({ s with script := [] }.issued i) := by
    refine running_issued rfl hr hbound fun hf => hc ?_
    cases i <;> exact hf
  obtain ⟨n, t, -, hn, ht, hscript, hbusy, hres, hopc⟩ := hrun.terminates (stepsLeft_issued_le _ i)
  refine ⟨n + 1, t, Nat.le_add_left 1 n, ?_, (core_run_succ (step_issue hb hs)).trans ht, hscript, hbusy, hres, hopc⟩
  have hbound' : n ≤ 14 + 2 * s.cfg.retryBound + 16 * s.len.toNat := hn
  omega

end Sys2Proof.Machine
end
